-- ==== Sys2Proof/Word.lean ====
section
/-! DEFINITION. The word types of the block and the plainest arithmetic on them
(00_scope.md rules R11 and R12). -/

namespace Sys2Proof

/-- One byte of a memory, one sample, one colour component (R11). -/
abbrev Byte := BitVec 8

/-- A register, a host address, a command word (R11: every register is 32 bits). -/
abbrev Word := BitVec 32

/-- A flag as the register bit that shows it. -/
abbrev bit (b : Bool) : BitVec 1 := BitVec.ofBool b

end Sys2Proof
end

