-- ==== Sys2Proof/Syntax.lean ====
section
/-! DEFINITION. The commands: one constructor per row of spec/opcode_table.json
(30_encoding.md rules R151 and R153). -/

namespace Sys2Proof

/-- A command word's meaning. The samples of `convertPixel` are naturals, as R152 passes them to the
transform; `Instr.wf` says that they fit their 8-bit fields. -/
inductive Instr where
  /-- `NOP` (R470). -/
  | nop
  /-- `CONVERT_PIXEL` with the samples Y, U and V of layout P (R206). -/
  | convertPixel (y u v : Nat)
  /-- `START.FILE`, layout S with K = 0 (R321). -/
  | startFile
  /-- `START.STREAM`, layout S with K = 1 (R321). -/
  | startStream
  /-- `STOP` (R322). -/
  | stop
  /-- `ACQUIRE` (R242). -/
  | acquire
  /-- `COMMIT` (R243). -/
  | commit
  /-- `CLEAR_ERR` (R472). -/
  | clearErr
deriving DecidableEq, Repr

end Sys2Proof
end

