-- ==== Sys2Proof/WellFormed.lean ====
section
/-! DEFINITION. Which commands a command word can hold (30_encoding.md rule R151). -/

namespace Sys2Proof

/-- A sample fits its operand field: a natural 0 to 255 (R151, R152). -/
def sampleFits (x : Nat) : Bool := decide (x < 256)

/-- The command can be written as a word: each sample of layout P fits its field. Layouts N and S
leave nothing to check: their constructors hold no operand. -/
def Instr.wf : Instr → Bool
  | .convertPixel y u v => sampleFits y && sampleFits u && sampleFits v
  | .nop => true
  | .startFile => true
  | .startStream => true
  | .stop => true
  | .acquire => true
  | .commit => true
  | .clearErr => true

end Sys2Proof
end

