-- ==== Sys2Proof/Decode.lean ====
section
/-! DEFINITION. From command words to commands and back (30_encoding.md rules R150 to R154). -/

namespace Sys2Proof

/-- Why a word, or a run of bytes, is no command. The block answers such a word with the result
ILLEGAL (R474), so no reason here stops the machine. -/
inductive DecodeError where
  /-- OPCODE 0x07 to 0xFF (R153). -/
  | reservedOpcode (op : BitVec 8)
  /-- A defined opcode with a nonzero reserved operand bit (R153). -/
  | reservedOperand (op : BitVec 8)
  /-- Not the four bytes of one command word (R150: every command has this one length). -/
  | notOneWord
deriving DecidableEq, Repr

/-- OPCODE, word[31:24] (R150). -/
def opcodeOf (w : Word) : BitVec 8 := w.extractLsb' 24 8

/-- The operand field, word[23:0] (R150). -/
def operandOf (w : Word) : BitVec 24 := w.extractLsb' 0 24

/-- Y = word[7:0], layout P (R151). -/
def sampleY (w : Word) : Nat := (w.extractLsb' 0 8).toNat

/-- U = word[15:8], layout P (R151). -/
def sampleU (w : Word) : Nat := (w.extractLsb' 8 8).toNat

/-- V = word[23:16], layout P (R151). -/
def sampleV (w : Word) : Nat := (w.extractLsb' 16 8).toNat

/-- A command of layout N: every operand bit is reserved and must be 0 (R151). -/
def decodeN (w : Word) (i : Instr) : Except DecodeError Instr :=
  if operandOf w = 0#24 then .ok i else .error (.reservedOperand (opcodeOf w))

/-- A command of layout S: word[23:1] must be 0 and word[0] is K (R151). -/
def decodeS (w : Word) : Except DecodeError Instr :=
  if operandOf w = 0#24 then .ok .startFile
  else if operandOf w = 1#24 then .ok .startStream
  else .error (.reservedOperand (opcodeOf w))

/-- The decoder of R154, total on all 2^32 words; ILLEGAL is the `error` outcome. -/
def decode (w : Word) : Except DecodeError Instr :=
  if opcodeOf w = 0x00#8 then decodeN w .nop
  else if opcodeOf w = 0x01#8 then .ok (.convertPixel (sampleY w) (sampleU w) (sampleV w))
  else if opcodeOf w = 0x02#8 then decodeS w
  else if opcodeOf w = 0x03#8 then decodeN w .stop
  else if opcodeOf w = 0x04#8 then decodeN w .acquire
  else if opcodeOf w = 0x05#8 then decodeN w .commit
  else if opcodeOf w = 0x06#8 then decodeN w .clearErr
  else .error (.reservedOpcode (opcodeOf w))

/-- The word whose four bytes, lowest address first, are given: little-endian lanes (R103). -/
def wordOfBytes (b0 b1 b2 b3 : Byte) : Word := b3 ++ b2 ++ b1 ++ b0

/-- The four bytes of a word, lowest address first (R103). -/
def bytesOfWord (w : Word) : List Byte :=
  [w.extractLsb' 0 8, w.extractLsb' 8 8, w.extractLsb' 16 8, w.extractLsb' 24 8]

/-- The decoder on bytes: it reads the one command word they hold. -/
def decodeBytes : List Byte → Except DecodeError Instr
  | [b0, b1, b2, b3] => decode (wordOfBytes b0 b1 b2 b3)
  | _ => .error .notOneWord

/-- The command word of bits `w`, of which the opcode table gives the low `nbits`. -/
def tableWord (nbits w : Nat) : Word := BitVec.ofNat 32 (w % 2 ^ nbits)

/-- The command that the decoder reads from an opcode-table row's bits. -/
def decodeTableWord (nbits w : Nat) : Option Instr :=
  (decodeBytes (bytesOfWord (tableWord nbits w))).toOption

/-- The word of a well-formed command (R151 and R153). -/
def encode : Instr → Word
  | .nop => 0x00#8 ++ 0#24
  | .convertPixel y u v => 0x01#8 ++ BitVec.ofNat 8 v ++ BitVec.ofNat 8 u ++ BitVec.ofNat 8 y
  | .startFile => 0x02#8 ++ 0#24
  | .startStream => 0x02#8 ++ 1#24
  | .stop => 0x03#8 ++ 0#24
  | .acquire => 0x04#8 ++ 0#24
  | .commit => 0x05#8 ++ 0#24
  | .clearErr => 0x06#8 ++ 0#24

end Sys2Proof
end

