-- ==== Sys2Proof/Config.lean ====
section
/-! DEFINITION. What one instance of the block fixes (R9) and what the spec leaves free (R20).
Everything here that has no body is opaque: no proof can see its value. -/

namespace Sys2Proof

/-- The synthesis parameters of one instance (00_scope.md rule R9). -/
structure Params where
  /-- `MAX_W`, the largest display width in pixels. -/
  maxW : Nat
  /-- `MAX_H`, the largest display height in pixels. -/
  maxH : Nat
  /-- `SRC_BYTES`, the size of the source memory. -/
  srcBytes : Nat
  /-- `DEB_INTERVAL_RST`, the reset value of `DEB_INTERVAL`. -/
  debIntervalRst : Nat
  /-- `CLK_HZ`; no rule depends on it. -/
  clkHz : Nat
deriving DecidableEq, Repr

/-- `FB_BYTES = MAX_W*MAX_H*2`, the size of each framebuffer memory (R9). -/
def Params.fbBytes (p : Params) : Nat := p.maxW * p.maxH * 2

/-- The constraint column of R9's table. -/
abbrev Params.legal (p : Params) : Prop :=
  p.maxW % 2 = 0 ∧ 2 ≤ p.maxW ∧ p.maxW ≤ 65534 ∧
  p.maxH % 2 = 0 ∧ 2 ≤ p.maxH ∧ p.maxH ≤ 65534 ∧
  p.fbBytes ≤ 2 ^ 24 ∧
  p.maxW * p.maxH * 3 / 2 ≤ p.srcBytes ∧ p.srcBytes ≤ 2 ^ 26 ∧
  1 ≤ p.debIntervalRst ∧ p.debIntervalRst ≤ 65535 ∧ 0 < p.clkHz

namespace Config

/-- The five OPEN values of R9 (decisions D47 to D50), before they are brought into their ranges. -/
opaque openMaxW : Nat
/-- See `openMaxW`. -/
opaque openMaxH : Nat
/-- See `openMaxW`. -/
opaque openSrcBytes : Nat
/-- See `openMaxW`. -/
opaque openDebInterval : Nat
/-- See `openMaxW`. -/
opaque openClkHz : Nat

/-- Half of `MAX_W`: any number from 1 to 32767. -/
def halfMaxW : Nat := 1 + openMaxW % 32767

/-- Half of `MAX_H`: any number from 1 that keeps a framebuffer inside its 2^24-byte window. -/
def halfMaxH : Nat := 1 + openMaxH % min 32767 (2 ^ 21 / halfMaxW)

/-- The bytes of the largest frame. -/
def maxFrame : Nat := 2 * halfMaxW * (2 * halfMaxH) * 3 / 2

/-- The parameters of the instance: every legal choice of R9 is the image of some open values, and
every choice of the open values is legal. UNKNOWN to every proof, by the opaque constants. -/
def params : Params where
  maxW := 2 * halfMaxW
  maxH := 2 * halfMaxH
  srcBytes := maxFrame + openSrcBytes % (2 ^ 26 - maxFrame + 1)
  debIntervalRst := 1 + openDebInterval % 65535
  clkHz := 1 + openClkHz

/-- The fresh draws of R20: the `n`-th read of an unwritten memory byte gives `freeByte n`, a free
value under no law. -/
opaque freeByte : Nat → Byte

end Config
end Sys2Proof
end

