-- ==== Sys2Proof/Machine/Event.lean ====
section
/-! DEFINITION. The steps that the agents of 00_scope.md rule R16 may take, and the free environment
that chooses among them where no schedule is given. -/

namespace Sys2Proof.Machine

/-- The size n of a host transaction: n in {1, 2, 4} bytes (R102). -/
inductive Size where
  | b1
  | b2
  | b4
deriving DecidableEq, Repr, Inhabited

/-- A host transaction (R102). -/
inductive HostOp where
  /-- `MemRead(addr, n)`. -/
  | read (addr : Word) (n : Size)
  /-- `MemWrite(addr, n, v)`. -/
  | write (addr : Word) (n : Size) (v : Word)
deriving DecidableEq, Repr, Inhabited

/-- What the stream producer does at the input port (R284, R286). -/
inductive ProducerAct where
  /-- The producer puts one more byte behind those it already holds at the port (`s_valid`, `s_data`). -/
  | offer (x : Byte)
  /-- PUSH: the byte at the port moves, if `s_ready` (R284). -/
  | push
  /-- CLOSE: a pulse on `s_close` (R286). -/
  | close
  /-- ERROR: a pulse on `s_error` (R286). -/
  | error
deriving DecidableEq, Repr, Inhabited

/-- One step of one agent (R16). An event whose agent has no enabled step changes nothing. -/
inductive Event where
  /-- TICK, with the level of `btn_in` that the PIN agent drives at it (R16, R17, R400). -/
  | tick (btn : Bool)
  /-- HOST: one bus transaction (R102). -/
  | host (op : HostOp)
  /-- HOST: the next statement of the host's program (R159); one read, where that is a POLL. -/
  | program
  /-- WORKER: the enabled step of the session sequencer (43_session.md). -/
  | worker
  /-- SPI: one byte of the present in progress, or its end (R372, R373). -/
  | spi
  /-- MODESW: completion of a pending mode switch (R436). -/
  | modesw
  /-- PRODUCER: the stream input port (R284, R286). -/
  | producer (a : ProducerAct)
  /-- `rst_n` low: the unguarded reset step (R550). -/
  | reset
deriving DecidableEq, Repr, Inhabited

/-- A statement of a host program (R159). -/
inductive HostStmt where
  /-- `WR a, v` -/
  | wr (a v : Word)
  /-- `WRH a, v` -/
  | wrh (a v : Word)
  /-- `WRB a, v` -/
  | wrb (a v : Word)
  /-- `RD a` -/
  | rd (a : Word)
  /-- `RDH a` -/
  | rdh (a : Word)
  /-- `RDB a` -/
  | rdb (a : Word)
  /-- `POLL a, m, v` -/
  | poll (a m v : Word)
  /-- `ENV ...`: one action of an environment agent, or one TICK -/
  | env (e : Event)
deriving DecidableEq, Repr

end Sys2Proof.Machine

namespace Sys2Proof.Config

/-- The interleaving that R16 leaves open: the `n`-th event for which no schedule is given. A free
value: any agent, any transaction, any level, any time. -/
opaque environment : Nat → Sys2Proof.Machine.Event

end Sys2Proof.Config
end

