-- ==== Sys2Proof/Machine/State.lean ====
section
/-! DEFINITION. The state of the block as plain data (10_state.md), its reset value, and the ways a
step can stop. -/

namespace Sys2Proof.Machine

/-! ### The named values of the status fields (R42, R64, R70) -/

/-- One of the two framebuffers `FB[0]`, `FB[1]` (R71). -/
inductive Buf where
  | fb0
  | fb1
deriving DecidableEq, Repr

/-- `STATUS.OWNER`: who owns the back buffer (R240). -/
inductive Owner where
  | none
  | worker
  | host
deriving DecidableEq, Repr

/-- `STATUS.KIND`: the source kind of a session (R42). -/
inductive Kind where
  | file
  | stream
deriving DecidableEq, Repr

/-- `STATUS.WPHASE`: the phase of the session sequencer (R42, R320). -/
inductive WPhase where
  | idle
  | top
  | fetch
  | convert
  | present
  | pace
deriving DecidableEq, Repr

/-- `STATUS.MODE` and `STATUS.SWITCH_TARGET` (R42). -/
inductive Mode where
  | navigation
  | camera
deriving DecidableEq, Repr

/-- `STATUS.GESTURE` (R432). -/
inductive Gesture where
  | idle
  | pressed
  | held
deriving DecidableEq, Repr

/-- `BUTTON.LAST_EVENT`, the DebouncedEvent (R64, R432). -/
inductive ButtonEvent where
  | idle
  | pressed
  | held
  | released
deriving DecidableEq, Repr

/-- `STATUS.LAST_STABLE` (R42). -/
inductive Stable where
  | low
  | high
  | none
deriving DecidableEq, Repr

/-- `BUTTON.LAST_RESULT`; `none` before the first window ends (R64). -/
inductive Result where
  | low
  | high
  | unstable
  | none
deriving DecidableEq, Repr

/-- The result r of a completed window (R401). -/
inductive Window where
  | low
  | high
  | unstable
deriving DecidableEq, Repr

/-- `STATUS.STREAM_END` (R42). -/
inductive StreamEnd where
  | none
  | closed
  | error
deriving DecidableEq, Repr

/-- PENDING_CMD: the long-running host command in progress (R70). -/
inductive Pending where
  | none
  | stop
  | commit
deriving DecidableEq, Repr

/-- SPI_SRC: the agent that started the present in progress (R70). -/
inductive Presenter where
  | worker
  | host
deriving DecidableEq, Repr

/-- The result codes of R501. -/
inductive ResultCode where
  | ok
  | alreadyActive
  | notActive
  | ownerConflict
  | illegal
  | modeOwned
  | pending
deriving DecidableEq, Repr

/-- The session error causes of R502. `eos` and `allocFail` are reserved: no rule produces them. -/
inductive Cause where
  | none
  | eos
  | shortRead
  | closed
  | allocFail
deriving DecidableEq, Repr

/-- Why a session ends (R335). -/
inductive EndReason where
  | stopped
  | fatal (c : Cause)
deriving DecidableEq, Repr

/-- The five interrupt sources, one bit of `IRQ_PEND` each (R46). -/
inductive Irq where
  | frameDone
  | sessionEnd
  | modeChange
  | cmdDone
  | busErr
deriving DecidableEq, Repr

/-- The WORKER steps of R158. -/
inductive WorkerOp where
  | top
  | fetchFile
  | fetchStreamDone
  | fetchStreamFail
  | convertEnd
  | presentDone
  | pace
deriving DecidableEq, Repr

/-- The SPI steps of R158. -/
inductive SpiOp where
  | byte
  | finish
deriving DecidableEq, Repr

/-- The response of the host port (R30, R102). -/
inductive Response where
  | ok
  | err
deriving DecidableEq, Repr

/-! ### The parts of the state -/

/-- A byte-addressed memory (R71): the bytes written since power-on, addresses strictly rising. An
address that is not listed is "unwritten" (R20, R73): it reads as no value, and each read draws one. -/
abbrev Memory := List Host.Cell

/-- What the host port last answered: the response, and the read data (0 for a write). -/
structure Reply where
  resp : Response
  data : Word
deriving DecidableEq, Repr

/-- The display geometry and the chroma plane order: `WIDTH`, `HEIGHT` (R48, R49), `CTRL.UV_SWAP` (R41). -/
structure Geometry where
  width : BitVec 16
  height : BitVec 16
  uvSwap : Bool
deriving DecidableEq, Repr

/-- D17's result registers `PIX_RGB` (R62), by component, and `PIX_565` (R63). -/
structure PixelRegs where
  r : Byte
  g : Byte
  b : Byte
  packed : BitVec 16
deriving DecidableEq, Repr

/-- D25's state: `STATUS.FRONT` and `STATUS.OWNER` (R240). -/
structure Pool where
  front : Buf
  owner : Owner
deriving DecidableEq, Repr

/-- The frame source: `FILE_LEN` (R51), `FILE_POS` (R52), ACC = `STREAM_CNT` (R66),
`STATUS.STREAM_END` (R42), FRAME_BASE (R70), and the bytes the producer holds at the input port,
the one on `s_data` first (R30, R284; `s_valid` is that there is one). -/
structure Source where
  fileLen : Word
  filePos : Word
  acc : Word
  streamEnd : StreamEnd
  frameBase : Word
  offered : List Byte
deriving DecidableEq, Repr

/-- The session sequencer: the STATUS fields ACTIVE, KIND, CANCEL, WPHASE (R42), `FRAME_PERIOD` (R50),
`FRAME_COUNT` (R53), `START_TS` (R54), T0 and FIRST_FRAME_DONE (R70). -/
structure Session where
  active : Bool
  kind : Kind
  cancel : Bool
  phase : WPhase
  framePeriod : BitVec 31
  frameCount : Word
  startTs : Word
  t0 : Word
  firstFrameDone : Bool
deriving DecidableEq, Repr

/-- The levels of `spi_sclk` and `spi_mosi` in one clock cycle of a byte's waveform (R370). -/
structure PinSample where
  sclk : Bool
  mosi : Bool
deriving DecidableEq, Repr

/-- One present as the pins show it (R374): the command byte if one was sent, the payload bytes in the
order sent, and whether a reset cut it short (R551). -/
structure SpiRecord where
  cmd : Option Byte
  payload : List Byte
  truncated : Bool
deriving DecidableEq, Repr

/-- D19/D27: `SPI_CTRL` (R61), `STATUS.SPI_BUSY` (R42), the latches of R70, the output pins of R30, the
waveform of the byte sent last (R370), and the transactions of R374: the present in progress (or the
last one) and those that have ended, oldest first. -/
structure Spi where
  div : Byte
  cmdEn : Bool
  cmdByte : Byte
  busy : Bool
  src : Presenter
  buf : Buf
  len : Word
  idx : Word
  cmdPhase : Bool
  cmdV : Byte
  sclk : Bool
  mosi : Bool
  csN : Bool
  dc : Bool
  wave : List PinSample
  current : SpiRecord
  sent : List SpiRecord
deriving DecidableEq, Repr

/-- D26's debouncer: `DEB_INTERVAL` (R56), `DEB_COUNT` (R57), the hidden DB_TMR, DB_FIRST, DB_AGREE,
SYNC1, SYNC2 (R70), the BUTTON fields PIN, LAST_RESULT, DB_K (R64) and `STATUS.LAST_STABLE` (R42). -/
structure Debouncer where
  interval : BitVec 16
  count : Byte
  tmr : BitVec 16
  k : Byte
  first : Bool
  agree : Bool
  sync1 : Bool
  sync2 : Bool
  pin : Bool
  lastResult : Result
  lastStable : Stable
deriving DecidableEq, Repr

/-- D26's mode-select FSM: `CTRL.MODE_EN` (R41), the STATUS fields MODE, SWITCH_PENDING, SWITCH_TARGET,
GESTURE (R42), `HOLD_MIN` (R58), the BUTTON fields HOLD_CNT and LAST_EVENT (R64), `DWELL_MAX` (R59) and
`DWELL` (R60). -/
structure ModeFsm where
  en : Bool
  mode : Mode
  switchPending : Bool
  switchTarget : Mode
  gesture : Gesture
  holdMin : Byte
  holdCnt : Byte
  lastEvent : ButtonEvent
  dwellMax : Word
  dwell : Word
deriving DecidableEq, Repr

/-- The command port: PENDING_CMD (R70) and the fields of `CMD_RESULT` (R44). -/
structure Cmd where
  pending : Pending
  code : ResultCode
  data : Byte
  opcode : Byte
deriving DecidableEq, Repr

/-- The fields of `ERR` (R45). -/
structure ErrRecord where
  cause : Cause
  atStart : Bool
  kind : Kind
deriving DecidableEq, Repr

/-- `IRQ_PEND[4:0]` (R46), `IRQ_EN[4:0]` (R47) and `BUSERR_ADDR` (R65). -/
structure Reports where
  irqPend : BitVec 5
  irqEn : BitVec 5
  busErrAddr : Word
deriving DecidableEq, Repr

/-- The block. INVENTORY.md lists every field with the rule that names it and its reset value. The last
six fields are the MODEL's own: the instance's parameters (R9), the host port's last answer (R19), the
count of fresh draws (R20), the count of events drawn from the free environment, the events that are
scheduled next (R16), in order, and the statements the host has still to run (R159), in order. -/
structure State where
  geom : Geometry
  pix : PixelRegs
  pool : Pool
  source : Source
  sess : Session
  spi : Spi
  deb : Debouncer
  fsm : ModeFsm
  cmd : Cmd
  err : ErrRecord
  rep : Reports
  /-- `CYCLE` (R55). -/
  cycle : Word
  /-- `FB[0]` (R71). -/
  fb0 : Memory
  /-- `FB[1]` (R71). -/
  fb1 : Memory
  /-- `SRC` (R71). -/
  srcMem : Memory
  params : Params
  reply : Option Reply
  draws : Nat
  drawnEvents : Nat
  schedule : List Event
  program : List HostStmt
deriving DecidableEq, Repr

/-! ### The ways a step can stop -/

/-- Faults: an agent of the block addresses a byte outside a memory's backing store, for which no rule
gives an effect. No run from reset meets one (the rules keep the addresses inside, R212, R281, R372). -/
inductive Fault where
  /-- CONVERT.END or PUSH would use a byte of `SRC` at or beyond SRC_BYTES. SAFE: the model stops where
  the spec says nothing, and only in states that no run reaches. -/
  | sourceOverrun
  /-- CONVERT.END or an SPI byte would use a byte of a framebuffer at or beyond FB_BYTES. SAFE, as above. -/
  | bufferOverrun
deriving DecidableEq, Repr

/-- Refusals. -/
inductive Refusal where
  /-- Raised by `exec` for a command that has no meaning in the model yet; none is left. SAFE: the model
  stops. -/
  | notModelled (mnemonic : String)
deriving DecidableEq, Repr

/-! ### Reset -/

/-- Every register and hidden item at its reset value (R33, R40 to R67, R70, R75), for an instance with
parameters `p`; every memory byte unwritten (R73). -/
def State.resetWith (p : Params) : State where
  geom := ⟨BitVec.ofNat 16 p.maxW, BitVec.ofNat 16 p.maxH, false⟩
  pix := ⟨0, 0, 0, 0⟩
  pool := ⟨.fb0, .none⟩
  source := ⟨0, 0, 0, .none, 0, []⟩
  sess := ⟨false, .file, false, .idle, 0, 0, 0, 0, false⟩
  spi :=
    { div := 1, cmdEn := false, cmdByte := 0, busy := false, src := .worker, buf := .fb0, len := 0,
      idx := 0, cmdPhase := false, cmdV := 0, sclk := false, mosi := false, csN := true, dc := true,
      wave := [], current := ⟨none, [], false⟩, sent := [] }
  deb :=
    { interval := BitVec.ofNat 16 p.debIntervalRst, count := 10, tmr := 0, k := 0, first := false,
      agree := true, sync1 := false, sync2 := false, pin := false, lastResult := .none,
      lastStable := .none }
  fsm :=
    { en := false, mode := .navigation, switchPending := false, switchTarget := .navigation,
      gesture := .idle, holdMin := 1, holdCnt := 0, lastEvent := .idle, dwellMax := 0, dwell := 0 }
  cmd := ⟨.none, .ok, 0, 0⟩
  err := ⟨.none, false, .file⟩
  rep := ⟨0, 0, 0⟩
  cycle := 0
  fb0 := []
  fb1 := []
  srcMem := []
  params := p
  reply := none
  draws := 0
  drawnEvents := 0
  schedule := []
  program := []

/-- The block right after power-on reset (R550): the instance's parameters are those of `Config`, and
nothing is scheduled and the host has no program. -/
def State.reset : State := State.resetWith Config.params

end Sys2Proof.Machine
end

