-- ==== Sys2Proof/Machine/Flags.lean ====
section
/-! DEFINITION. The codes of the named values, the interrupt bits, and the words in which the status
registers show the state (10_state.md §3, 60_exceptions.md). -/

namespace Sys2Proof.Machine

/-! ### Codes -/

/-- The buffer's index (R71, `STATUS.FRONT`). -/
def Buf.index : Buf → BitVec 1
  | .fb0 => 0
  | .fb1 => 1

/-- The other buffer: `1 - i` (R240). -/
def Buf.other : Buf → Buf
  | .fb0 => .fb1
  | .fb1 => .fb0

/-- `STATUS.OWNER` (R42). -/
def Owner.code : Owner → BitVec 2
  | .none => 0
  | .worker => 1
  | .host => 2

/-- `STATUS.KIND`, and the K of a START (R42, R151). -/
def Kind.code : Kind → BitVec 1
  | .file => 0
  | .stream => 1

/-- `STATUS.WPHASE` (R42). -/
def WPhase.code : WPhase → BitVec 3
  | .idle => 0
  | .top => 1
  | .fetch => 2
  | .convert => 3
  | .present => 4
  | .pace => 5

/-- `STATUS.MODE` and `STATUS.SWITCH_TARGET` (R42). -/
def Mode.code : Mode → BitVec 1
  | .navigation => 0
  | .camera => 1

/-- `other(MODE)` (R433). -/
def Mode.other : Mode → Mode
  | .navigation => .camera
  | .camera => .navigation

/-- `STATUS.GESTURE` (R42). -/
def Gesture.code : Gesture → BitVec 2
  | .idle => 0
  | .pressed => 1
  | .held => 2

/-- `BUTTON.LAST_EVENT` (R64). -/
def ButtonEvent.code : ButtonEvent → BitVec 2
  | .idle => 0
  | .pressed => 1
  | .held => 2
  | .released => 3

/-- `STATUS.LAST_STABLE` (R42). -/
def Stable.code : Stable → BitVec 2
  | .low => 0
  | .high => 1
  | .none => 2

/-- `BUTTON.LAST_RESULT` (R64). -/
def Result.code : Result → BitVec 2
  | .low => 0
  | .high => 1
  | .unstable => 2
  | .none => 3

/-- A window's result as `BUTTON.LAST_RESULT` records it (R401). -/
def Window.result : Window → Result
  | .low => .low
  | .high => .high
  | .unstable => .unstable

/-- The stable level after a window: a window that is not Unstable sets it (R401). -/
def Window.stable : Window → Stable → Stable
  | .low, _ => .low
  | .high, _ => .high
  | .unstable, p => p

/-- `STATUS.STREAM_END` (R42). -/
def StreamEnd.code : StreamEnd → BitVec 2
  | .none => 0
  | .closed => 1
  | .error => 2

/-- The result codes (R501). -/
def ResultCode.code : ResultCode → Byte
  | .ok => 0x00
  | .alreadyActive => 0x01
  | .notActive => 0x02
  | .ownerConflict => 0x03
  | .illegal => 0x04
  | .modeOwned => 0x05
  | .pending => 0xFF

/-- The session error causes (R502). -/
def Cause.code : Cause → Byte
  | .none => 0x00
  | .eos => 0x01
  | .shortRead => 0x02
  | .closed => 0x03
  | .allocFail => 0x04

/-! ### Interrupts -/

/-- The source's bit of `IRQ_PEND` and `IRQ_EN` (R46). -/
def Irq.mask : Irq → BitVec 5
  | .frameDone => 0b00001
  | .sessionEnd => 0b00010
  | .modeChange => 0b00100
  | .cmdDone => 0b01000
  | .busErr => 0b10000

/-- `irq_set(E)` sets one pending bit, whatever `IRQ_EN` holds (R510). -/
def irqSet (e : Irq) (s : State) : State :=
  { s with rep.irqPend := s.rep.irqPend ||| e.mask }

/-- A pending bit of `IRQ_PEND` (R46). -/
def State.irqPending (s : State) (e : Irq) : Bool := s.rep.irqPend &&& e.mask != 0

/-- A host write of v to `IRQ_PEND` clears the bits that v sets (R511). -/
def irqClear (v : Word) (s : State) : State :=
  { s with rep.irqPend := s.rep.irqPend &&& ~~~(v.extractLsb' 0 5) }

/-- The `irq` output: some enabled source is pending (R510). -/
def State.irq (s : State) : Bool := s.rep.irqPend &&& s.rep.irqEn != 0

/-! ### Register words -/

/-- `STATUS.CMD_BUSY = (PENDING_CMD != NONE)` (R70). -/
def State.cmdBusy (s : State) : Bool := s.cmd.pending != .none

/-- `CTRL` (R41). -/
def State.ctrlWord (s : State) : Word := 0#30 ++ bit s.geom.uvSwap ++ bit s.fsm.en

/-- `STATUS` (R42), from bit 19 down to bit 0. -/
def State.statusWord (s : State) : Word :=
  0#12 ++ s.source.streamEnd.code ++ s.deb.lastStable.code ++ s.fsm.gesture.code
    ++ s.sess.phase.code ++ s.fsm.switchTarget.code ++ bit s.fsm.switchPending ++ bit s.spi.busy
    ++ s.fsm.mode.code ++ s.pool.front.index ++ s.pool.owner.code ++ bit s.cmdBusy
    ++ bit s.sess.cancel ++ s.sess.kind.code ++ bit s.sess.active

/-- `CMD_RESULT` (R44). -/
def State.cmdResultWord (s : State) : Word := 0#8 ++ s.cmd.opcode ++ s.cmd.data ++ s.cmd.code.code

/-- `ERR` (R45). -/
def State.errWord (s : State) : Word :=
  0#22 ++ s.err.kind.code ++ bit s.err.atStart ++ s.err.cause.code

/-- `SPI_CTRL` (R61). -/
def State.spiCtrlWord (s : State) : Word :=
  0#8 ++ s.spi.cmdByte ++ 0#7 ++ bit s.spi.cmdEn ++ s.spi.div

/-- `PIX_RGB` (R62). -/
def State.pixRgbWord (s : State) : Word := 0#8 ++ s.pix.b ++ s.pix.g ++ s.pix.r

/-- `BUTTON` (R64). Bit 3 has no row in R64's table and reads 0. -/
def State.buttonWord (s : State) : Word :=
  0#8 ++ s.deb.k ++ s.fsm.holdCnt ++ 0#2 ++ s.fsm.lastEvent.code ++ 0#1 ++ s.deb.lastResult.code
    ++ bit s.deb.pin

end Sys2Proof.Machine
end

