-- ==== Sys2Proof/Machine/Operands.lean ====
section
/-! DEFINITION. The operand forms of a host transaction: its size, its alignment and the region its
address lies in (20_memory.md rules R100 to R105). -/

namespace Sys2Proof.Machine

/-- n, in bytes (R102). -/
def Size.bytes : Size → Nat
  | .b1 => 1
  | .b2 => 2
  | .b4 => 4

/-- Natural alignment: `addr mod n = 0` (R104, R105). -/
def aligned (addr : Word) (n : Size) : Bool := addr.toNat % n.bytes == 0

/-- The backing of an address (R100). -/
inductive Region where
  /-- The registers. -/
  | reg
  /-- A framebuffer window. -/
  | fb (b : Buf)
  /-- The source memory window. -/
  | src
  /-- No region (R101). -/
  | unmapped
deriving DecidableEq, Repr

/-- The region whose window holds the address (R100). -/
def regionOf (addr : Word) : Region :=
  if addr < 0x00001000#32 then .reg
  else if addr < 0x01000000#32 then .unmapped
  else if addr < 0x02000000#32 then .fb .fb0
  else if addr < 0x03000000#32 then .fb .fb1
  else if addr < 0x04000000#32 then .unmapped
  else if addr < 0x08000000#32 then .src
  else .unmapped

/-- The base address of a framebuffer window (R100). -/
def Buf.base : Buf → Word
  | .fb0 => 0x01000000#32
  | .fb1 => 0x02000000#32

/-- The base address of the source window (R100). -/
def srcBase : Word := 0x04000000#32

/-- The offset inside a region: `addr - base` (R100). -/
def offsetIn : Region → Word → Nat
  | .reg, a => a.toNat
  | .fb b, a => (a - b.base).toNat
  | .src, a => (a - srcBase).toNat
  | .unmapped, a => a.toNat

/-- The size of the memory behind a region (R100, R9). -/
def backingSize (p : Params) : Region → Nat
  | .reg => 0x1000
  | .fb _ => p.fbBytes
  | .src => p.srcBytes
  | .unmapped => 0

/-- Every byte of the transaction lies in the region's backing memory (R101). -/
def mapped (p : Params) (addr : Word) (n : Size) : Bool :=
  decide (offsetIn (regionOf addr) addr + n.bytes ≤ backingSize p (regionOf addr))

/-- The transaction has a size and an alignment that its region accepts (R104, R105). -/
def shapeOk (addr : Word) (n : Size) : Bool :=
  match regionOf addr with
  | .reg => n == .b4 && aligned addr n
  | _ => aligned addr n

/-- The offset of `CMD` (R43). -/
def cmdOffset : Nat := 0x00C

/-- The address of `CMD`: `REG_BASE + 0x00C` (R155). -/
def cmdAddr : Word := 0x0000000C#32

end Sys2Proof.Machine
end

