-- ==== Sys2Proof/Machine/Ops.lean ====
section
/-! DEFINITION. The named operations that the commands, the bus and the agents share: memory, the error
channels that take the place of exceptions (R512), command completion, and the procedures of the
session, the buffer pool, the SPI controller and the mode switch. -/

namespace Sys2Proof.Machine

/-! ### Memory (R71, R103) -/

/-- The canonical form: addresses strictly rising. No listed byte equals what an unlisted address reads
as, since that is no value. -/
abbrev Memory.wf (m : Memory) : Prop := m.Pairwise (fun x y => x.1 < y.1)

/-- The byte written last at an address; `none` if it is unwritten (R20, R115). -/
def Memory.read : Memory → Nat → Option Byte
  | [], _ => none
  | (b, v) :: m, a => if a = b then some v else Memory.read m a

/-- Write one byte. -/
def Memory.write : Memory → Nat → Byte → Memory
  | [], a, x => [(a, x)]
  | (b, v) :: m, a, x =>
    if a < b then (a, x) :: (b, v) :: m
    else if a = b then (a, x) :: m
    else (b, v) :: Memory.write m a x

/-- A byte, or the next fresh draw if it is unwritten, and the count of draws after it (R20). -/
def Memory.readOrDraw (m : Memory) (a draws : Nat) : Byte × Nat :=
  match m.read a with
  | some v => (v, draws)
  | none => (Config.freeByte draws, draws + 1)

/-- `n` bytes from offset `o` as little-endian lanes; bits above 8n read 0 (R103). -/
def Memory.readLanes (m : Memory) : (o n draws : Nat) → Word × Nat
  | _, 0, d => (0, d)
  | o, n + 1, d =>
    let low := m.readOrDraw o d
    let high := m.readLanes (o + 1) n low.2
    (high.1 <<< 8 ||| low.1.setWidth 32, high.2)

/-- Write the low `n` bytes of `v` from offset `o` as little-endian lanes (R103). -/
def Memory.writeLanes (m : Memory) : (o n : Nat) → Word → Memory
  | _, 0, _ => m
  | o, n + 1, v => (m.write o (v.extractLsb' 0 8)).writeLanes (o + 1) n (v >>> 8)

/-- Framebuffer `b` (R71). -/
def State.fb (s : State) : Buf → Memory
  | .fb0 => s.fb0
  | .fb1 => s.fb1

/-- Store framebuffer `b`. -/
def State.setFb (s : State) (b : Buf) (m : Memory) : State :=
  match b with
  | .fb0 => { s with fb0 := m }
  | .fb1 => { s with fb1 := m }

/-- The back buffer, `1 - FRONT` (R240). -/
def State.back (s : State) : Buf := s.pool.front.other

/-- W*H, the pixels of a frame. -/
def State.pixels (s : State) : Nat := s.geom.width.toNat * s.geom.height.toNat

/-- FS, the frame size `WIDTH*HEIGHT*3/2` in bytes (R22). -/
def State.frameSize (s : State) : Nat := s.pixels * 3 / 2

/-! ### The error channels (R500, R502, R506) -/

/-- A completed transaction: response OK, with the data a read returns (R102). -/
def replyOk (data : Word) (s : State) : State := { s with reply := some ⟨.ok, data⟩ }

/-- `raise BusError(addr)`: the transaction is refused (R506). -/
def busError (addr : Word) (s : State) : State :=
  irqSet .busErr { s with reply := some ⟨.err, 0⟩, rep.busErrAddr := addr }

/-- A command that completes at once (R156). -/
def complete (c : ResultCode) (data : Byte) (s : State) : State :=
  irqSet .cmdDone { s with cmd.code := c, cmd.data := data }

/-- A long-running command at issue (R156). -/
def pend (p : Pending) (s : State) : State :=
  { s with cmd.pending := p, cmd.code := .pending, cmd.data := 0 }

/-- Completion of a long-running command, by another agent's step (R156). -/
def completePending (s : State) : State :=
  irqSet .cmdDone { s with cmd.pending := .none, cmd.code := .ok }

/-! ### The session (R321, R335) -/

/-- `session_begin(K)` (R321). -/
def sessionBegin (k : Kind) (s : State) : State :=
  { s with
    sess.active := true, sess.kind := k, sess.cancel := false
    source.streamEnd := .none, source.acc := 0
    sess.frameCount := 0, sess.firstFrameDone := false
    sess.startTs := s.cycle, source.filePos := 0
    sess.phase := .top }

/-- The record that a fatal end leaves in `ERR` (R335). -/
def recordError (r : EndReason) (s : State) : State :=
  match r with
  | .stopped => s
  | .fatal c => { s with err := ⟨c, !s.sess.firstFrameDone, s.sess.kind⟩ }

/-- A pending STOP completes when the session has ended (R335). -/
def completeStop (s : State) : State :=
  if s.cmd.pending = .stop then completePending s else s

/-- `session_end(reason)`; `raise SessionFatal(cause)` is its fatal case (R335). -/
def sessionEnd (r : EndReason) (s : State) : State :=
  completeStop (irqSet .sessionEnd (recordError r
    { s with sess.active := false, sess.phase := .idle, sess.cancel := false }))

/-! ### The buffer pool (R244, R246) and the SPI controller (R371) -/

/-- The worker's acquire, the end of a successful fetch (R244). -/
def workerAcquire (s : State) : State := { s with pool.owner := .worker, sess.phase := .convert }

/-- `commit_and_swap()` (R246). -/
def commitAndSwap (s : State) : State := { s with pool := ⟨s.pool.front.other, .none⟩ }

/-- `spi_start(k, src)` (R371). A new transaction record begins (R374). -/
def spiStart (k : Buf) (src : Presenter) (s : State) : State :=
  { s with
    spi.buf := k
    spi.len := BitVec.ofNat 32 (2 * s.pixels)
    spi.idx := 0
    spi.cmdPhase := s.spi.cmdEn
    spi.cmdV := s.spi.cmdByte
    spi.src := src
    spi.busy := true
    spi.csN := false
    spi.current := ⟨none, [], false⟩ }

/-! ### The mode switch (R435) -/

/-- `switch_request(t)` (R435). -/
def switchRequest (t : Mode) (s : State) : State :=
  { s with
    fsm.switchPending := true
    fsm.switchTarget := t
    fsm.gesture := .idle
    fsm.holdCnt := 0
    sess.cancel := s.sess.active || s.sess.cancel }

end Sys2Proof.Machine
end

