-- ==== Sys2Proof/Machine/Misc.lean ====
section
/-! DEFINITION. The miscellaneous commands (47_misc_commands.md): NOP, CLEAR_ERR and the answer to an
illegal word. -/

namespace Sys2Proof.Machine

/-- NOP (R470). -/
def execNop (s : State) : Host.Outcome State Fault Refusal := .next (complete .ok 0 s)

/-- CLEAR_ERR (R472). -/
def execClearErr (s : State) : Host.Outcome State Fault Refusal :=
  .next (complete .ok 0 { s with err := ⟨.none, false, .file⟩ })

/-- An illegal command word is answered, not trapped (R474). -/
def illegalWord (s : State) : State := complete .illegal 0 s

end Sys2Proof.Machine
end

