-- ==== Sys2Proof/Machine/Convert.lean ====
section
/-! DEFINITION. D17, the YUV420-to-RGB565 converter (40_color_converter.md): the pixel transform,
CONVERT_PIXEL and the frame pass. -/

namespace Sys2Proof.Machine

/-- Saturation to [0, 255] (R201). -/
def clamp8 (x : Int) : Byte := if x < 0 then 0 else if 255 < x then 255 else BitVec.ofInt 8 x

/-- The sum before the shift, red (R200). -/
def sumR (y v : Nat) : Int := 298 * ((y : Int) - 16) + 409 * ((v : Int) - 128) + 128

/-- The sum before the shift, green (R200). -/
def sumG (y u v : Nat) : Int :=
  298 * ((y : Int) - 16) - 100 * ((u : Int) - 128) - 208 * ((v : Int) - 128) + 128

/-- The sum before the shift, blue (R200). -/
def sumB (y u : Nat) : Int := 298 * ((y : Int) - 16) + 516 * ((u : Int) - 128) + 128

/-- A colour triple (r, g, b) (R200). -/
structure Rgb where
  r : Byte
  g : Byte
  b : Byte
deriving DecidableEq, Repr

/-- `convert(y, u, v)` (R200); `>>>` on Int is the arithmetic shift, floor division (R12, R202). -/
def convert (y u v : Nat) : Rgb :=
  ⟨clamp8 (sumR y v >>> (8 : Nat)), clamp8 (sumG y u v >>> (8 : Nat)),
    clamp8 (sumB y u >>> (8 : Nat))⟩

/-- `pack565(r, g, b)` (R203). -/
def pack565 (c : Rgb) : BitVec 16 :=
  (c.r &&& 0xF8#8).setWidth 16 <<< 8 ||| (c.g &&& 0xFC#8).setWidth 16 <<< 3
    ||| (c.b >>> (3 : Nat)).setWidth 16

/-- CONVERT_PIXEL (R206). -/
def execConvertPixel (y u v : Nat) (s : State) : Host.Outcome State Fault Refusal :=
  let c := convert y u v
  .next (complete .ok 0 { s with pix := ⟨c.r, c.g, c.b, pack565 c⟩ })

/-! ### The frame pass -/

/-- The plane bases YB, UB and VB of a frame (R210). -/
structure Planes where
  yb : Nat
  ub : Nat
  vb : Nat
deriving DecidableEq, Repr

/-- The planes of the frame at SRC offset `base` (R110, R210). -/
def planesAt (base pixels : Nat) (uvSwap : Bool) : Planes :=
  let first := base + pixels
  let second := base + pixels + pixels / 4
  if uvSwap then ⟨base, second, first⟩ else ⟨base, first, second⟩

/-- The chroma index of pixel (row, col), for display width `w` (R211). -/
def chromaIndex (w row col : Nat) : Nat := row / 2 * (w / 2) + col / 2

/-- Where the pixel loop stands: the buffer being painted, and the count of fresh draws. -/
structure Paint where
  fb : Memory
  draws : Nat
deriving DecidableEq, Repr

/-- The body of the loop of R212 at (row, col): read y, u and v, convert, store the pixel big-endian
(R111). A source byte that nothing has written is a fresh draw (R20). -/
def paintPixel (src : Memory) (pl : Planes) (w : Nat) (a : Paint) (rc : Nat × Nat) : Paint :=
  let p := rc.1 * w + rc.2
  let ci := chromaIndex w rc.1 rc.2
  let y := src.readOrDraw (pl.yb + p) a.draws
  let u := src.readOrDraw (pl.ub + ci) y.2
  let v := src.readOrDraw (pl.vb + ci) u.2
  let pix := pack565 (convert y.1.toNat u.1.toNat v.1.toNat)
  { fb := (a.fb.write (2 * p) (pix.extractLsb' 8 8)).write (2 * p + 1) (pix.extractLsb' 0 8)
    draws := v.2 }

/-- The (row, col) pairs in the loop order of R212. -/
def pixelOrder (w h : Nat) : List (Nat × Nat) :=
  (List.range h).flatMap fun row => (List.range w).map fun col => (row, col)

/-- `frame_pass(b, k)` (R212), from SRC offset `base` into framebuffer `k`, in one step (R213). -/
def framePass (base : Nat) (k : Buf) (s : State) : State :=
  let w := s.geom.width.toNat
  let pl := planesAt base s.pixels s.geom.uvSwap
  let a := (pixelOrder w s.geom.height.toNat).foldl (paintPixel s.srcMem pl w) ⟨s.fb k, s.draws⟩
  { s.setFb k a.fb with draws := a.draws }

end Sys2Proof.Machine
end

