-- ==== Sys2Proof/Machine/BufferPool.lean ====
section
/-! DEFINITION. D25, the double-buffer arbiter (41_buffer_pool.md): ACQUIRE, COMMIT and the worker's
CONVERT.END. -/

namespace Sys2Proof.Machine

/-- The index in `CMD_RESULT.DATA` (R44, R242). -/
def Buf.data (b : Buf) : Byte := b.index.setWidth 8

/-- ACQUIRE (R242). -/
def execAcquire (s : State) : Host.Outcome State Fault Refusal :=
  .next <|
    if s.fsm.en = true ∧ s.fsm.mode = .camera then complete .modeOwned 0 s
    else if s.sess.active = true ∨ s.pool.owner ≠ .none ∨ s.spi.busy = true
        ∨ s.fsm.switchPending = true then
      complete .ownerConflict 0 s
    else complete .ok s.back.data { s with pool.owner := .host }

/-- COMMIT (R243): its completion is `spiEnd`'s. -/
def execCommit (s : State) : Host.Outcome State Fault Refusal :=
  .next <|
    if s.pool.owner ≠ .host then complete .ownerConflict 0 s
    else pend .commit (spiStart s.pool.front.other .host (commitAndSwap s))

/-- CONVERT.END (R245). It stops where the frame or the buffer does not fit its memory (R212, R9). -/
def convertEnd (s : State) : Host.Outcome State Fault Refusal :=
  if s.params.srcBytes < s.source.frameBase.toNat + s.frameSize then .fault .sourceOverrun
  else if s.params.fbBytes < 2 * s.pixels then .fault .bufferOverrun
  else
    let painted := commitAndSwap (framePass s.source.frameBase.toNat s.back s)
    .next { spiStart painted.pool.front .worker painted with sess.phase := .present }

end Sys2Proof.Machine
end

