-- ==== Sys2Proof/Machine/FrameSource.lean ====
section
/-! DEFINITION. The frame source (42_frame_source.md): the file loop, the stream input port and the
stream fetch. -/

namespace Sys2Proof.Machine

/-- `fail_file()`'s cause (R282). -/
def fileFailCause (s : State) : Cause := if s.source.fileLen = 0 then .closed else .shortRead

/-- FETCH.FILE (R281, R282). The subtraction `FILE_LEN - FILE_POS >= FS` is on mathematical integers
(R12). -/
def fetchFile (s : State) : State :=
  if s.source.filePos.toNat + s.frameSize ≤ s.source.fileLen.toNat then
    workerAcquire { s with
      source.frameBase := s.source.filePos
      source.filePos := BitVec.ofNat 32 (s.source.filePos.toNat + s.frameSize) }
  else if s.frameSize ≤ s.source.fileLen.toNat then
    workerAcquire { s with
      source.frameBase := 0
      source.filePos := BitVec.ofNat 32 s.frameSize }
  else sessionEnd (.fatal (fileFailCause s)) s

/-- The `s_ready` output (R284). -/
def State.sReady (s : State) : Bool :=
  s.sess.active && s.sess.kind == .stream && s.sess.phase == .fetch
    && decide (s.source.acc.toNat < s.frameSize) && s.source.streamEnd == .none

/-- The producer holds one more byte at the port: `s_valid` rises, or the byte waits behind others. -/
def offerByte (x : Byte) (s : State) : State := { s with source.offered := s.source.offered ++ [x] }

/-- PUSH (R284): the byte at the port moves when `s_ready`; otherwise the producer is held and no byte
is lost (R569). -/
def pushByte (s : State) : Host.Outcome State Fault Refusal :=
  match s.source.offered with
  | [] => .next s
  | x :: rest =>
    if s.sReady then
      if s.source.acc.toNat < s.params.srcBytes then
        .next { s with
          srcMem := s.srcMem.write s.source.acc.toNat x
          source.acc := s.source.acc + 1
          source.offered := rest }
      else .fault .sourceOverrun
    else .next s

/-- CLOSE and ERROR (R286): the first pulse in a Stream session is latched. -/
def endStream (e : StreamEnd) (s : State) : State :=
  if s.sess.active = true ∧ s.sess.kind = .stream ∧ s.source.streamEnd = .none then
    { s with source.streamEnd := e }
  else s

/-- A PRODUCER step. -/
def producerStep (a : ProducerAct) (s : State) : Host.Outcome State Fault Refusal :=
  match a with
  | .offer x => .next (offerByte x s)
  | .push => pushByte s
  | .close => .next (endStream .closed s)
  | .error => .next (endStream .error s)

/-- FETCH.STREAM done (R285). -/
def fetchStreamDone (s : State) : State := workerAcquire { s with source.frameBase := 0 }

/-- The cause of a failed stream fetch (R287). -/
def streamFailCause (s : State) : Cause :=
  if s.source.streamEnd = .error then .closed
  else if s.source.acc = 0 then .closed
  else .shortRead

/-- FETCH.STREAM fail (R287). -/
def fetchStreamFail (s : State) : State := sessionEnd (.fatal (streamFailCause s)) s

end Sys2Proof.Machine
end

