-- ==== Sys2Proof/Machine/Session.lean ====
section
/-! DEFINITION. The session sequencer (43_session.md): START, STOP, the steps of the pacing loop and
which of them is enabled. -/

namespace Sys2Proof.Machine

/-- START's answer for source kind K (R321). -/
def startSession (k : Kind) (s : State) : State :=
  if s.fsm.en = true ∧ ¬(s.fsm.mode = .camera ∧ k = .stream ∧ s.fsm.switchPending = false) then
    complete .modeOwned 0 s
  else if s.sess.active = true then complete .alreadyActive 0 s
  else if s.pool.owner ≠ .none ∨ s.spi.busy = true then complete .ownerConflict 0 s
  else complete .ok 0 (sessionBegin k s)

/-- START.FILE (R321). -/
def execStartFile (s : State) : Host.Outcome State Fault Refusal := .next (startSession .file s)

/-- START.STREAM (R321). -/
def execStartStream (s : State) : Host.Outcome State Fault Refusal := .next (startSession .stream s)

/-- STOP (R322): its completion is `sessionEnd`'s. -/
def execStop (s : State) : Host.Outcome State Fault Refusal :=
  .next <|
    if s.fsm.en = true then complete .modeOwned 0 s
    else if s.sess.active = false then complete .notActive 0 s
    else pend .stop { s with sess.cancel := true }

/-- TOP (R326). -/
def topStep (s : State) : State :=
  if s.sess.cancel = true then sessionEnd .stopped s
  else
    { s with
      sess.t0 := s.cycle
      source.acc := if s.sess.kind = .stream then 0 else s.source.acc
      sess.phase := .fetch }

/-- PRESENT.DONE (R331). -/
def presentDone (s : State) : State :=
  irqSet .frameDone { s with
    sess.frameCount := s.sess.frameCount + 1
    sess.firstFrameDone := true
    sess.phase := .pace }

/-- The pacing guard `(CYCLE - T0) mod 2^32 >= FRAME_PERIOD` (R332). -/
def State.paceDue (s : State) : Bool :=
  decide (s.sess.framePeriod.toNat ≤ (s.cycle - s.sess.t0).toNat)

/-- PACE (R332). -/
def paceStep (s : State) : State := { s with sess.phase := .top }

/-- The WORKER step whose guard holds, if any: at most one does (R326, R281, R285, R287, R245, R331,
R332). In FETCH a stalled producer leaves none (R288). -/
def State.workerOp (s : State) : Option WorkerOp :=
  match s.sess.phase with
  | .idle => none
  | .top => some .top
  | .fetch =>
    if s.sess.active = false then none
    else
      match s.sess.kind with
      | .file => some .fetchFile
      | .stream =>
        if s.source.acc.toNat = s.frameSize then some .fetchStreamDone
        else if s.source.streamEnd ≠ .none ∧ s.source.acc.toNat < s.frameSize then
          some .fetchStreamFail
        else none
  | .convert => some .convertEnd
  | .present => if s.spi.busy = false then some .presentDone else none
  | .pace => if s.paceDue then some .pace else none

/-- A WORKER step (R158, R320). -/
def workerStep (s : State) : Host.Outcome State Fault Refusal :=
  match s.workerOp with
  | none => .next s
  | some .top => .next (topStep s)
  | some .fetchFile => .next (fetchFile s)
  | some .fetchStreamDone => .next (fetchStreamDone s)
  | some .fetchStreamFail => .next (fetchStreamFail s)
  | some .convertEnd => convertEnd s
  | some .presentDone => .next (presentDone s)
  | some .pace => .next (paceStep s)

end Sys2Proof.Machine
end

