-- ==== Sys2Proof/Machine/Dispatch.lean ====
section
/-! DEFINITION. The command's meaning, one arm per constructor of `Instr`. -/

namespace Sys2Proof.Machine

/-- Execute the decoded command's rule (R155, third part of the issue). -/
def exec (i : Instr) (s : State) : Host.Outcome State Fault Refusal :=
  match i with
  | .nop => Sys2Proof.Machine.execNop s
  | .convertPixel y u v => Sys2Proof.Machine.execConvertPixel y u v s
  | .startFile => Sys2Proof.Machine.execStartFile s
  | .startStream => Sys2Proof.Machine.execStartStream s
  | .stop => Sys2Proof.Machine.execStop s
  | .acquire => Sys2Proof.Machine.execAcquire s
  | .commit => Sys2Proof.Machine.execCommit s
  | .clearErr => Sys2Proof.Machine.execClearErr s

end Sys2Proof.Machine
end

