-- ==== Sys2Proof/Machine/Debounce.lean ====
section
/-! DEFINITION. D26, the button debouncer (45_debouncer.md): the synchroniser, the sampling window and
its restart. -/

namespace Sys2Proof.Machine

/-- The synchroniser takes in `btn_in` (R400); the level this TICK samples is SYNC2 before it. -/
def synchronise (btn : Bool) (s : State) : State :=
  { s with deb.sync2 := s.deb.sync1, deb.sync1 := btn }

/-- A sample of level `lvl` (R401, up to the test for the window's end). -/
def takeSample (lvl : Bool) (s : State) : State :=
  { s with
    deb.pin := lvl
    deb.first := if s.deb.k = 0 then lvl else s.deb.first
    deb.agree := if s.deb.k = 0 then true else s.deb.agree && lvl == s.deb.first
    deb.k := s.deb.k + 1
    deb.tmr := s.deb.interval - 1 }

/-- The result of a window whose samples are all taken (R401). -/
def State.windowResult (s : State) : Window :=
  if s.deb.agree then (if s.deb.first then .high else .low) else .unstable

/-- The end of a window (R401). -/
def closeWindow (s : State) : State :=
  { s with
    deb.lastResult := s.windowResult.result
    deb.k := 0
    deb.lastStable := s.windowResult.stable s.deb.lastStable }

/-- What the debounce step gives the gesture FSM: r, and the stable level p before it (R401, R405). -/
structure WindowEnd where
  r : Window
  p : Stable
deriving DecidableEq, Repr

/-- The debounce step with the synchronised level `lvl` (R401). -/
def debounceStep (lvl : Bool) (s : State) : State × Option WindowEnd :=
  if s.deb.tmr ≠ 0 then ({ s with deb.tmr := s.deb.tmr - 1 }, none)
  else
    let t := takeSample lvl s
    if t.deb.k = t.deb.count then (closeWindow t, some ⟨t.windowResult, t.deb.lastStable⟩)
    else (t, none)

/-- The restart of the window (R403). -/
def restartWindow (s : State) : State :=
  { s with deb.tmr := 0, deb.k := 0, deb.agree := true }

end Sys2Proof.Machine
end

