-- ==== Sys2Proof/Machine/ModeSelect.lean ====
section
/-! DEFINITION. D26, the mode-select FSM (46_mode_fsm.md): the gesture step, the dwell step, the switch
and its completion, and the enable. -/

namespace Sys2Proof.Machine

/-- `min(HOLD_CNT + 1, 255)` (R433). -/
def bumpHold (x : Byte) : Byte := if x = 255 then 255 else x + 1

/-- `min(DWELL + 1, 2^32 - 1)` (R438). -/
def bumpDwell (x : Word) : Word := if x = 0xFFFFFFFF#32 then 0xFFFFFFFF#32 else x + 1

/-- A window in GESTURE = Idle: only a debounced rising edge starts a gesture (R433). -/
def gestureIdle (w : WindowEnd) (s : State) : State :=
  if w.r = .high ∧ w.p = .low then
    { s with fsm.gesture := .pressed, fsm.holdCnt := 1, fsm.lastEvent := .pressed }
  else { s with fsm.lastEvent := .idle }

/-- A stable release: it confirms the switch if the hold was long enough (R433, R434). -/
def gestureRelease (s : State) : State :=
  let t := { s with fsm.gesture := .idle, fsm.holdCnt := 0 }
  let u := if s.fsm.holdMin ≤ s.fsm.holdCnt then switchRequest s.fsm.mode.other t else t
  { u with fsm.lastEvent := .released }

/-- A window in GESTURE = Pressed or Held (R433). -/
def gestureDown (w : WindowEnd) (s : State) : State :=
  if w.r = .high then
    { s with
      fsm.gesture := .held
      fsm.holdCnt := bumpHold s.fsm.holdCnt
      fsm.lastEvent := .held }
  else gestureRelease s

/-- The gesture step (R433). -/
def gestureStep (w : WindowEnd) (s : State) : State :=
  if s.fsm.en = false ∨ s.fsm.switchPending = true ∨ w.r = .unstable then s
  else
    match s.fsm.gesture with
    | .idle => gestureIdle w s
    | .pressed => gestureDown w s
    | .held => gestureDown w s

/-- The dwell step (R438). -/
def dwellStep (s : State) : State :=
  if s.fsm.en = true ∧ s.fsm.mode = .camera ∧ s.fsm.switchPending = false then
    let t := { s with fsm.dwell := bumpDwell s.fsm.dwell }
    if t.fsm.dwellMax ≠ 0 ∧ t.fsm.dwellMax ≤ t.fsm.dwell then switchRequest .navigation t else t
  else s

/-- One TICK (R17): the debouncer, the gesture step when a window ended, the dwell step, CYCLE. -/
def tickStep (btn : Bool) (s : State) : State :=
  let d := debounceStep s.deb.sync2 (synchronise btn s)
  let g := match d.2 with
    | some w => gestureStep w d.1
    | none => d.1
  let t := dwellStep g
  { t with cycle := t.cycle + 1 }

/-- The guard of switch complete (R436). -/
def State.switchReady (s : State) : Bool :=
  s.fsm.switchPending && !s.sess.active && s.pool.owner == .none && !s.spi.busy

/-- MODE takes the target, and MODE_CHANGE is raised if it changes (R436, R437). -/
def enterMode (t : Mode) (s : State) : State :=
  if s.fsm.mode = t then s else irqSet .modeChange { s with fsm.mode := t }

/-- Switch complete (R436): entry to Camera starts a Stream session. -/
def switchComplete (s : State) : State :=
  let t := enterMode s.fsm.switchTarget { s with fsm.switchPending := false }
  match s.fsm.switchTarget with
  | .camera => sessionBegin .stream { t with fsm.dwell := 0 }
  | .navigation => t

/-- A MODESW step (R436). -/
def modeswStep (s : State) : State := if s.switchReady then switchComplete s else s

/-- The side effects of a CTRL write that sets MODE_EN to `en`, after it is stored; `was` is the value
before (R440). -/
def modeEnEffect (was en : Bool) (s : State) : State :=
  match was, en with
  | false, true => switchRequest .navigation s
  | true, false => { s with fsm.gesture := .idle, fsm.holdCnt := 0 }
  | _, _ => s

end Sys2Proof.Machine
end

