-- ==== Sys2Proof/Machine/Registers.lean ====
section
/-! DEFINITION. The register map (10_state.md §3): what a read returns, when a write is locked, and what
a write does. `CMD` is written by `issue` (Bus.lean). -/

namespace Sys2Proof.Machine

/-- The 32-bit value of the register at an offset of the register region (R33, R40 to R67). -/
def readReg (off : Nat) (s : State) : Word :=
  match off with
  | 0x000 => 0xD0170001#32
  | 0x004 => s.ctrlWord
  | 0x008 => s.statusWord
  | 0x00C => 0#32
  | 0x010 => s.cmdResultWord
  | 0x014 => s.errWord
  | 0x018 => s.rep.irqPend.setWidth 32
  | 0x01C => s.rep.irqEn.setWidth 32
  | 0x020 => s.geom.width.setWidth 32
  | 0x024 => s.geom.height.setWidth 32
  | 0x028 => s.sess.framePeriod.setWidth 32
  | 0x02C => s.source.fileLen
  | 0x030 => s.source.filePos
  | 0x034 => s.sess.frameCount
  | 0x038 => s.sess.startTs
  | 0x03C => s.cycle
  | 0x040 => s.deb.interval.setWidth 32
  | 0x044 => s.deb.count.setWidth 32
  | 0x048 => s.fsm.holdMin.setWidth 32
  | 0x04C => s.fsm.dwellMax
  | 0x050 => s.fsm.dwell
  | 0x054 => s.spiCtrlWord
  | 0x058 => s.pixRgbWord
  | 0x05C => s.pix.packed.setWidth 32
  | 0x060 => s.buttonWord
  | 0x064 => s.rep.busErrAddr
  | 0x068 => s.source.acc
  | _ => 0#32

/-- The lock of WIDTH and HEIGHT (R48, R49). -/
def State.geomLocked (s : State) : Bool := s.sess.active || s.pool.owner != .none || s.spi.busy

/-- The lock of CTRL for a write of `v` (R41). -/
def State.ctrlLocked (s : State) (v : Word) : Bool :=
  s.fsm.switchPending || (s.sess.active && v.getLsbD 1 != s.geom.uvSwap)

/-- The lock conditions of the RWL registers (R507). -/
def regLocked (off : Nat) (v : Word) (s : State) : Bool :=
  match off with
  | 0x004 => s.ctrlLocked v
  | 0x020 => s.geomLocked
  | 0x024 => s.geomLocked
  | 0x02C => s.sess.active
  | 0x054 => s.spi.busy
  | _ => false

/-- A legal display size: even, and 2 up to the largest (R48, R49). -/
def sizeLegal (limit : Nat) (x : BitVec 16) : Bool :=
  decide (x.toNat % 2 = 0 ∧ 2 ≤ x.toNat ∧ x.toNat ≤ limit)

/-- A write of CTRL (R41, R440). -/
def writeCtrl (v : Word) (s : State) : State :=
  modeEnEffect s.fsm.en (v.getLsbD 0)
    { s with fsm.en := v.getLsbD 0, geom.uvSwap := v.getLsbD 1 }

/-- A write of WIDTH (R48). -/
def writeWidth (v : Word) (s : State) : State :=
  if sizeLegal s.params.maxW (v.extractLsb' 0 16) then
    { s with geom.width := v.extractLsb' 0 16 }
  else s

/-- A write of HEIGHT (R49). -/
def writeHeight (v : Word) (s : State) : State :=
  if sizeLegal s.params.maxH (v.extractLsb' 0 16) then
    { s with geom.height := v.extractLsb' 0 16 }
  else s

/-- A write of FILE_LEN (R51). -/
def writeFileLen (v : Word) (s : State) : State :=
  if v.toNat ≤ s.params.srcBytes then { s with source.fileLen := v } else s

/-- A write of DEB_INTERVAL (R56, R403). -/
def writeDebInterval (v : Word) (s : State) : State :=
  if v.extractLsb' 0 16 ≠ 0#16 then restartWindow { s with deb.interval := v.extractLsb' 0 16 }
  else s

/-- A write of DEB_COUNT (R57, R403). -/
def writeDebCount (v : Word) (s : State) : State :=
  if v.extractLsb' 0 8 ≠ 0#8 then restartWindow { s with deb.count := v.extractLsb' 0 8 } else s

/-- A write of HOLD_MIN (R58). -/
def writeHoldMin (v : Word) (s : State) : State :=
  if v.extractLsb' 0 8 ≠ 0#8 then { s with fsm.holdMin := v.extractLsb' 0 8 } else s

/-- A write of SPI_CTRL (R61): SPI_DIV 0 is illegal and leaves the whole register unchanged. -/
def writeSpiCtrl (v : Word) (s : State) : State :=
  if v.extractLsb' 0 8 ≠ 0#8 then
    { s with
      spi.div := v.extractLsb' 0 8
      spi.cmdEn := v.getLsbD 8
      spi.cmdByte := v.extractLsb' 16 8 }
  else s

/-- An unlocked write of a register other than CMD. A write to a RO or reserved offset is ignored
(R32, R67). -/
def writeReg (off : Nat) (v : Word) (s : State) : State :=
  match off with
  | 0x004 => writeCtrl v s
  | 0x018 => irqClear v s
  | 0x01C => { s with rep.irqEn := v.extractLsb' 0 5 }
  | 0x020 => writeWidth v s
  | 0x024 => writeHeight v s
  | 0x028 => { s with sess.framePeriod := v.extractLsb' 0 31 }
  | 0x02C => writeFileLen v s
  | 0x040 => writeDebInterval v s
  | 0x044 => writeDebCount v s
  | 0x048 => writeHoldMin v s
  | 0x04C => { s with fsm.dwellMax := v }
  | 0x054 => writeSpiCtrl v s
  | _ => s

end Sys2Proof.Machine
end

