-- ==== Sys2Proof/Machine/Bus.lean ====
section
/-! DEFINITION. The host port (20_memory.md): which transactions are refused, what the others do, and
the issue of a command word (30_encoding.md rules R155 to R157). -/

namespace Sys2Proof.Machine

/-- A read is refused: causes 1 to 4 and 6 of R506 (R101, R104, R105, R106, R108). -/
def readRefused (addr : Word) (n : Size) (s : State) : Bool :=
  !shapeOk addr n || !mapped s.params addr n ||
    match regionOf addr with
    | .reg => false
    | .fb b => s.pool.owner == .worker && b == s.back
    | .src => s.sess.active
    | .unmapped => true

/-- A write is refused: causes 1 to 3 and 5 to 8 of R506 (R101, R104, R105, R107, R108, R507, R157). -/
def writeRefused (addr : Word) (n : Size) (v : Word) (s : State) : Bool :=
  !shapeOk addr n || !mapped s.params addr n ||
    match regionOf addr with
    | .reg => regLocked addr.toNat v s || (addr.toNat == cmdOffset && s.cmdBusy)
    | .fb b => !(s.pool.owner == .host && b == s.back)
    | .src => s.sess.active
    | .unmapped => true

/-- An allowed read of `n` bytes at `o` of a memory (R103). -/
def readMem (m : Memory) (o : Nat) (n : Size) (s : State) : State :=
  let x := m.readLanes o n.bytes s.draws
  replyOk x.1 { s with draws := x.2 }

/-- `MemRead(addr, n)` (R102, R103, R114). -/
def hostRead (addr : Word) (n : Size) (s : State) : State :=
  if readRefused addr n s then busError addr s
  else
    match regionOf addr with
    | .reg => replyOk (readReg addr.toNat s) s
    | .fb b => readMem (s.fb b) (offsetIn (.fb b) addr) n s
    | .src => readMem s.srcMem (offsetIn .src addr) n s
    | .unmapped => busError addr s

/-- The first part of the issue of a command word: `CMD_RESULT.OPCODE <- w[31:24]`, with the write's
response OK (R155). -/
def latchOpcode (w : Word) (s : State) : State :=
  replyOk 0 { s with cmd.opcode := opcodeOf w }

/-- The issue of a command word: latch the opcode, decode, execute (R155). -/
def issue (w : Word) (s : State) : Host.Outcome State Fault Refusal :=
  match decode w with
  | .ok i => exec i (latchOpcode w s)
  | .error _ => .next (illegalWord (latchOpcode w s))

/-- `MemWrite(addr, n, v)` (R102, R103). -/
def hostWrite (addr : Word) (n : Size) (v : Word) (s : State) : Host.Outcome State Fault Refusal :=
  if writeRefused addr n v s then .next (busError addr s)
  else
    match regionOf addr with
    | .reg =>
      if addr = cmdAddr then issue v s else .next (replyOk 0 (writeReg addr.toNat v s))
    | .fb b =>
      .next (replyOk 0 (s.setFb b ((s.fb b).writeLanes (offsetIn (.fb b) addr) n.bytes v)))
    | .src =>
      .next (replyOk 0
        { s with srcMem := s.srcMem.writeLanes (offsetIn .src addr) n.bytes v })
    | .unmapped => .next (busError addr s)

/-- A HOST step: one transaction (R102). -/
def hostStep (op : HostOp) (s : State) : Host.Outcome State Fault Refusal :=
  match op with
  | .read addr n => .next (hostRead addr n s)
  | .write addr n v => hostWrite addr n v s

/-- The read data of the last transaction; 0 before any. -/
def State.readData (s : State) : Word :=
  match s.reply with
  | some r => r.data
  | none => 0

/-- A turn of the host at `POLL a, m, v` (R159): one read. The program goes on after it if
`(data & m) = v`; otherwise it stays at the POLL, and the host's next turn reads again. -/
def pollStep (addr mask value : Word) (rest : List HostStmt) (s : State) : State :=
  let t := hostRead addr .b4 s
  if t.readData &&& mask = value then { t with program := rest } else t

/-- A turn of the host: the next statement of its program (R159). `ENV` makes its event the next one. -/
def programStep (s : State) : Host.Outcome State Fault Refusal :=
  match s.program with
  | [] => .next s
  | .wr a v :: rest => hostStep (.write a .b4 v) { s with program := rest }
  | .wrh a v :: rest => hostStep (.write a .b2 v) { s with program := rest }
  | .wrb a v :: rest => hostStep (.write a .b1 v) { s with program := rest }
  | .rd a :: rest => hostStep (.read a .b4) { s with program := rest }
  | .rdh a :: rest => hostStep (.read a .b2) { s with program := rest }
  | .rdb a :: rest => hostStep (.read a .b1) { s with program := rest }
  | .poll a m v :: rest => .next (pollStep a m v rest s)
  | .env e :: rest => .next { s with program := rest, schedule := e :: s.schedule }

end Sys2Proof.Machine
end

