-- ==== Sys2Proof/Machine/SpiDisplay.lean ====
section
/-! DEFINITION. D19/D27, the SPI display controller (44_spi_display.md): the waveform of a byte, the SPI
steps and which of them is enabled. -/

namespace Sys2Proof.Machine

/-- One bit: sclk low for SPI_DIV cycles, then high for SPI_DIV cycles (R370). DESIGN CHOICE (assumption
log 8): mosi takes the bit's level in the first low cycle. R370 says only that it changes while sclk is
low, which leaves the cycle open when SPI_DIV > 1. -/
def bitWave (div : Nat) (level : Bool) : List PinSample :=
  List.replicate div ⟨false, level⟩ ++ List.replicate div ⟨true, level⟩

/-- The waveform of one byte, most significant bit first, one sample per clock cycle (R370). -/
def byteWave (div : Nat) (x : Byte) : List PinSample :=
  [7, 6, 5, 4, 3, 2, 1, 0].flatMap fun i => bitWave div (x.getLsbD i)

/-- `shift_out(x)` with the given `spi_dc` (R372): the pins run through the byte's waveform; then sclk
is low again (R370). DEDUCED (assumption log 8): mosi keeps the last bit. -/
def shiftOut (dc : Bool) (x : Byte) (s : State) : State :=
  { s with
    spi.dc := dc
    spi.wave := byteWave s.spi.div.toNat x
    spi.sclk := false
    spi.mosi := x.getLsbD 0 }

/-- SPI byte, the command byte (R372). -/
def spiCommandByte (s : State) : State :=
  { shiftOut false s.spi.cmdV s with
    spi.cmdPhase := false
    spi.current.cmd := some s.spi.cmdV }

/-- SPI byte, a payload byte read from the framebuffer being presented; a byte never written is a fresh
draw (R372, R20). -/
def spiPayloadByte (s : State) : State :=
  let x := (s.fb s.spi.buf).readOrDraw s.spi.idx.toNat s.draws
  { shiftOut true x.1 s with
    draws := x.2
    spi.idx := s.spi.idx + 1
    spi.current.payload := s.spi.current.payload ++ [x.1] }

/-- SPI byte (R372). It stops where the byte lies outside the framebuffer memory. -/
def spiByte (s : State) : Host.Outcome State Fault Refusal :=
  if s.spi.cmdPhase = true then .next (spiCommandByte s)
  else if s.spi.idx.toNat < s.params.fbBytes then .next (spiPayloadByte s)
  else .fault .bufferOverrun

/-- The pins and records at the end of a present (R373, R374). -/
def spiRelease (s : State) : State :=
  { s with
    spi.csN := true
    spi.dc := true
    spi.mosi := false
    spi.busy := false
    spi.sent := s.spi.sent ++ [s.spi.current] }

/-- SPI end (R373): a HOST present completes the COMMIT. -/
def spiEnd (s : State) : State :=
  if s.spi.src = .host ∧ s.cmd.pending = .commit then completePending (spiRelease s)
  else spiRelease s

/-- The SPI step whose guard holds, if any (R372, R373). -/
def State.spiOp (s : State) : Option SpiOp :=
  if s.spi.busy = false then none
  else if s.spi.cmdPhase = true ∨ s.spi.idx < s.spi.len then some .byte
  else if s.spi.idx = s.spi.len then some .finish
  else none

/-- An SPI step (R158). -/
def spiStep (s : State) : Host.Outcome State Fault Refusal :=
  match s.spiOp with
  | none => .next s
  | some .byte => spiByte s
  | some .finish => .next (spiEnd s)

end Sys2Proof.Machine
end

