-- ==== Sys2Proof/Machine/Agents.lean ====
section
/-! DEFINITION. The step of each agent (00_scope.md rule R16), reset, and how a command word is placed to
be issued next. -/

namespace Sys2Proof.Machine

/-- What the panel and the observer have seen of a present that a reset cuts short (R551): its record
ends there, truncated. -/
def State.sentAtReset (s : State) : List SpiRecord :=
  if s.spi.busy then s.spi.sent ++ [{ s.spi.current with truncated := true }] else s.spi.sent

/-- The reset step (R550, R551). The environment is not reset: the producer's remaining bytes wait
(R551), the events that are to come and the host's program stay, the draws stay fresh (R20), and the
transactions the panel has seen stay seen. -/
def resetStep (s : State) : State :=
  { State.resetWith s.params with
    source.offered := s.source.offered
    spi.sent := s.sentAtReset
    draws := s.draws
    drawnEvents := s.drawnEvents
    schedule := s.schedule
    program := s.program }

/-- One event: the step of its agent, or no change where the agent has no enabled step. -/
def runEvent (e : Event) (s : State) : Host.Outcome State Fault Refusal :=
  match e with
  | .tick btn => .next (tickStep btn s)
  | .host op => hostStep op s
  | .program => programStep s
  | .worker => workerStep s
  | .spi => spiStep s
  | .modesw => .next (modeswStep s)
  | .producer a => producerStep a s
  | .reset => .next (resetStep s)

/-- An event drawn from the free environment. While the host has a program, its transactions are that
program's (R159): any other is its turn. -/
def State.drawEvent (s : State) : Event :=
  match Config.environment s.drawnEvents, s.program with
  | .host _, _ :: _ => .program
  | e, _ => e

/-- The next event of the interleaving, and the state without it: the head of the schedule, or a fresh
draw from the free environment. -/
def takeEvent (s : State) : Event × State :=
  match s.schedule with
  | e :: rest => (e, { s with schedule := rest })
  | [] => (s.drawEvent, { s with drawnEvents := s.drawnEvents + 1 })

/-- `s` with the host's write of a command word as the next event, and no command pending, since a busy
`CMD` would refuse the word (R157). -/
def placeCommand (w : Word) (s : State) : State :=
  { s with
    cmd.pending := .none
    schedule := .host (.write cmdAddr .b4 w) :: s.schedule }

end Sys2Proof.Machine
end

