-- ==== Sys2Proof/Machine/Step.lean ====
section
/-! DEFINITION. One step of the block. -/

namespace Sys2Proof.Machine

/-- One step of the interleaving of R16: the next event's agent moves. -/
def step (s : State) : Host.Outcome State Fault Refusal :=
  runEvent (takeEvent s).1 (takeEvent s).2

/-- `s` with the command word of an opcode-table row as the word the host writes to `CMD` next. -/
def State.withFetchWord (s : State) (nbits w : Nat) : State := placeCommand (tableWord nbits w) s

end Sys2Proof.Machine
end

