-- ==== Sys2Proof/Machine/HostProgram.lean ====
section
/-! DEFINITION. Host programs (30_encoding.md rules R159 and R160): the names of the registers, the
pseudo-instructions, and how the host is given a program. `programStep` (Bus.lean) runs a statement. -/

namespace Sys2Proof.Machine

/-- The names of the register map (R33). -/
inductive Reg where
  | id
  | ctrl
  | status
  | cmd
  | cmdResult
  | err
  | irqPend
  | irqEn
  | width
  | height
  | framePeriod
  | fileLen
  | filePos
  | frameCount
  | startTs
  | cycle
  | debInterval
  | debCount
  | holdMin
  | dwellMax
  | dwell
  | spiCtrl
  | pixRgb
  | pix565
  | button
  | busErrAddr
  | streamCnt
deriving DecidableEq, Repr

/-- The offset of a register (R33). -/
def Reg.offset : Reg → Nat
  | .id => 0x000
  | .ctrl => 0x004
  | .status => 0x008
  | .cmd => 0x00C
  | .cmdResult => 0x010
  | .err => 0x014
  | .irqPend => 0x018
  | .irqEn => 0x01C
  | .width => 0x020
  | .height => 0x024
  | .framePeriod => 0x028
  | .fileLen => 0x02C
  | .filePos => 0x030
  | .frameCount => 0x034
  | .startTs => 0x038
  | .cycle => 0x03C
  | .debInterval => 0x040
  | .debCount => 0x044
  | .holdMin => 0x048
  | .dwellMax => 0x04C
  | .dwell => 0x050
  | .spiCtrl => 0x054
  | .pixRgb => 0x058
  | .pix565 => 0x05C
  | .button => 0x060
  | .busErrAddr => 0x064
  | .streamCnt => 0x068

/-- A register name stands for REG_BASE + its offset (R159). -/
def Reg.addr (r : Reg) : Word := BitVec.ofNat 32 r.offset

/-- The pseudo-instruction of a command: one `WR` to `CMD` (R160). -/
def HostStmt.command (i : Instr) : HostStmt := .wr Reg.cmd.addr (encode i)

/-- `WAITCMD`: `POLL STATUS, 0x00000008, 0x00000000` (R160). -/
def HostStmt.waitCmd : HostStmt := .poll Reg.status.addr 0x00000008#32 0#32

/-- `ENV` with a number of TICKs, the button at the given level (R159). -/
def HostStmt.ticks (n : Nat) (btn : Bool) : List HostStmt := List.replicate n (.env (.tick btn))

/-- `ENV PUSH`: the producer puts each byte at the port and pushes it (R159, R284). -/
def HostStmt.push (xs : List Byte) : List HostStmt :=
  xs.flatMap fun x => [.env (.producer (.offer x)), .env (.producer .push)]

/-- The host runs the program `p` before what it already has to run. The schedule says when each of its
statements has its turn among the other agents' steps (R16). -/
def State.withProgram (s : State) (p : List HostStmt) : State :=
  { s with program := p ++ s.program }

end Sys2Proof.Machine
end

