-- ==== Sys2Proof/Safety.lean ====
section
/-! DEFINITION. The terms in which the statements speak: the invariants of the block (10_state.md rule
R74 and the bounds that the rules keep), and runs of several events. -/

namespace Sys2Proof.Machine

/-- The arbiter's invariants, R74 (a) to (d) and (f), as strong as the steps need them: (a) in both
directions, and a present runs only outside a session or in its PRESENT phase. R74 (e) is that ACTIVE
is one value. -/
structure ArbiterInv (s : State) : Prop where
  /-- R74 (a), and its converse. -/
  workerOwns : s.pool.owner = .worker ↔ s.sess.phase = .convert
  /-- R74 (b). -/
  hostOwns : s.pool.owner = .host → s.sess.active = false
  /-- R74 (c), from which (d) follows. -/
  presenting : s.spi.busy = true → s.pool.owner = .none ∧ s.spi.buf = s.pool.front
  /-- R74 (f). -/
  phaseActive : s.sess.phase ≠ .idle ↔ s.sess.active = true
  /-- The worker waits in PRESENT while its present runs (R331); none runs when a session begins (R321). -/
  presentPhase : s.spi.busy = true → s.sess.phase = .idle ∨ s.sess.phase = .present

/-- The bounds that keep every access of the block's agents inside its memories (R9, R48, R49, R51,
R212, R281, R284, R285, R371). -/
structure BoundsInv (s : State) : Prop where
  /-- The instance's parameters are legal (R9). -/
  params : s.params.legal
  /-- WIDTH holds a legal value (R48). -/
  width : sizeLegal s.params.maxW s.geom.width = true
  /-- HEIGHT holds a legal value (R49). -/
  height : sizeLegal s.params.maxH s.geom.height = true
  /-- FILE_LEN holds a legal value (R51). -/
  fileLen : s.source.fileLen.toNat ≤ s.params.srcBytes
  /-- `FILE_POS <= FILE_LEN` while a File session is Active (R281). -/
  filePos : s.sess.active = true → s.sess.kind = .file → s.source.filePos.toNat ≤ s.source.fileLen.toNat
  /-- ACC never passes FS while a stream frame is being received (R284). -/
  acc : s.sess.phase = .fetch → s.sess.kind = .stream → s.source.acc.toNat ≤ s.frameSize
  /-- The frame to be converted lies inside SRC (R212). -/
  frame : s.sess.phase = .convert → s.source.frameBase.toNat + s.frameSize ≤ s.params.srcBytes
  /-- The latched length agrees with the registers during a present (R371). -/
  present : s.spi.busy = true → s.spi.len.toNat = 2 * s.pixels ∧ s.spi.idx.toNat ≤ s.spi.len.toNat

/-- The command port (R44, R156, R243, R322). -/
structure CommandInv (s : State) : Prop where
  /-- A pending STOP has an Active session that it cancelled (R322, R335). -/
  stopPending : s.cmd.pending = .stop → s.sess.active = true ∧ s.sess.cancel = true
  /-- A pending COMMIT has a present of the host in progress (R243, R373). -/
  commitPending : s.cmd.pending = .commit → s.spi.busy = true ∧ s.spi.src = .host
  /-- The result is PENDING exactly while a command is in progress (R44). -/
  result : s.cmd.code = .pending ↔ s.cmd.pending ≠ .none

/-- The mode-select FSM and the error record (R41, R430, R433, R440, R443, R502). -/
structure ModeInv (s : State) : Prop where
  /-- HOLD_CNT counts the windows of the current gesture: none in Idle (R432, R433). -/
  holdCnt : s.fsm.gesture = .idle ↔ s.fsm.holdCnt = 0
  /-- A gesture is under way only while the FSM runs and no switch is pending (R430, R435). -/
  gesture : s.fsm.gesture ≠ .idle → s.fsm.en = true ∧ s.fsm.switchPending = false
  /-- The FSM cannot be disabled in the middle of a switch (R440). -/
  switchEn : s.fsm.switchPending = true → s.fsm.en = true
  /-- While the FSM runs and no switch is pending, a session is a Camera session over the stream (R443). -/
  camera : s.fsm.en = true → s.fsm.switchPending = false → s.sess.active = true →
    s.fsm.mode = .camera ∧ s.sess.kind = .stream
  /-- The reserved causes are never recorded (R502). -/
  cause : s.err.cause ≠ .eos ∧ s.err.cause ≠ .allocFail

/-- The WARL registers hold legal values, and the debouncer's window stays inside them (R56, R57, R58,
R61, R401). -/
structure RegisterInv (s : State) : Prop where
  interval : s.deb.interval ≠ 0
  count : s.deb.count ≠ 0
  holdMin : s.fsm.holdMin ≠ 0
  div : s.spi.div ≠ 0
  /-- A window ends when its last sample is taken (R401). -/
  k : s.deb.k < s.deb.count
  /-- The next sample is less than DEB_INTERVAL cycles away (R402). -/
  tmr : s.deb.tmr < s.deb.interval

/-- The SPI pins between two steps, and the record of the present in progress (R370, R374). -/
structure PinInv (s : State) : Prop where
  /-- Chip select is low exactly during a present (R370). -/
  chipSelect : s.spi.csN = !s.spi.busy
  /-- The clock is low between bytes (R370). -/
  clock : s.spi.sclk = false
  /-- The idle levels (R75, R373). -/
  idle : s.spi.busy = false → s.spi.dc = true ∧ s.spi.mosi = false
  /-- The record holds the payload bytes sent so far (R372, R374). -/
  sent : s.spi.busy = true → s.spi.current.payload.length = s.spi.idx.toNat
  /-- The command byte goes first (R372). -/
  commandFirst : s.spi.busy = true → s.spi.cmdPhase = true → s.spi.idx = 0

/-- The memories are in canonical form. -/
structure MemoryInv (s : State) : Prop where
  fb0 : s.fb0.wf
  fb1 : s.fb1.wf
  src : s.srcMem.wf

/-- No event leaves the block in a state where a step stops. -/
def Continues (o : Host.Outcome State Fault Refusal) : Prop := ∃ t, o = .next t

/-- The events of `es` in order, stopping at the first fault or refusal. -/
def runEvents : List Event → State → Host.Outcome State Fault Refusal
  | [], s => .next s
  | e :: es, s =>
    match runEvent e s with
    | .next t => runEvents es t
    | .fault f => .fault f
    | .refused r => .refused r

/-- The debounce steps of successive TICKs whose synchronised levels are `lvls`, and the windows they
complete, in order (R401, R402). -/
def debounceRun : List Bool → State → State × List WindowEnd
  | [], s => (s, [])
  | l :: ls, s =>
    let d := debounceStep l s
    let rest := debounceRun ls d.1
    (rest.1, d.2.toList ++ rest.2)

/-- The `n` bytes of a memory from offset 0, where each has been written. -/
def storedBytes (m : Memory) (n : Nat) : List Byte :=
  (List.range n).map fun j => (m.read j).getD 0

end Sys2Proof.Machine
end

