-- ==== Sys2Proof/Certificates/Slice0/Obligations.lean ====
section
/-! DEFINITION. The statements for the provers: what the numbered rules of spec/ say of the commands, the
host port and the agents of the block. -/

open Sys2Proof Sys2Proof.Machine

/-! ### Encoding and issue -/

/-- Decode and encode agree on every well-formed command, with every sample at every value its field
admits (R151, R153). -/
def Obligations.DecodeOfEncode : Prop :=
  ∀ i : Instr, i.wf = true → decode (encode i) = .ok i

/-- A word has at most one meaning: a word that decodes is the encoding of the well-formed command it
decodes to (R153: "match / mask"). -/
def Obligations.EncodeOfDecode : Prop :=
  ∀ (w : Word) (i : Instr), decode w = .ok i → i.wf = true ∧ encode i = w

/-- R154 with R153's match and mask columns: the decoder on all 2^32 words. Each row's words decode to the
row's command, the samples of CONVERT_PIXEL from their fields, and the illegal words are exactly
those of R153's list. -/
def Obligations.DecodeFollowsTheOpcodeMap : Prop :=
  ∀ w : Word,
    (w &&& 0xFFFFFFFF#32 = 0x00000000#32 → decode w = .ok .nop) ∧
    (w &&& 0xFF000000#32 = 0x01000000#32 →
      decode w = .ok (.convertPixel (w.extractLsb' 0 8).toNat (w.extractLsb' 8 8).toNat
        (w.extractLsb' 16 8).toNat)) ∧
    (w &&& 0xFFFFFFFF#32 = 0x02000000#32 → decode w = .ok .startFile) ∧
    (w &&& 0xFFFFFFFF#32 = 0x02000001#32 → decode w = .ok .startStream) ∧
    (w &&& 0xFFFFFFFF#32 = 0x03000000#32 → decode w = .ok .stop) ∧
    (w &&& 0xFFFFFFFF#32 = 0x04000000#32 → decode w = .ok .acquire) ∧
    (w &&& 0xFFFFFFFF#32 = 0x05000000#32 → decode w = .ok .commit) ∧
    (w &&& 0xFFFFFFFF#32 = 0x06000000#32 → decode w = .ok .clearErr) ∧
    ((∃ e, decode w = .error e) ↔
      0x07#8 ≤ w.extractLsb' 24 8 ∨
      ((w.extractLsb' 24 8 = 0x00#8 ∨ (0x03#8 ≤ w.extractLsb' 24 8 ∧ w.extractLsb' 24 8 ≤ 0x06#8)) ∧
        w.extractLsb' 0 24 ≠ 0#24) ∨
      (w.extractLsb' 24 8 = 0x02#8 ∧ w.extractLsb' 1 23 ≠ 0#23))

/-- The words of R153's table, written out, decode to their commands; so does R206's example. -/
def Obligations.TableWordsDecode : Prop :=
  decode 0x00000000#32 = .ok .nop ∧
  decode 0x018080EB#32 = .ok (.convertPixel 235 128 128) ∧
  decode 0x01F05A51#32 = .ok (.convertPixel 81 90 240) ∧
  decode 0x02000000#32 = .ok .startFile ∧
  decode 0x02000001#32 = .ok .startStream ∧
  decode 0x03000000#32 = .ok .stop ∧
  decode 0x04000000#32 = .ok .acquire ∧
  decode 0x05000000#32 = .ok .commit ∧
  decode 0x06000000#32 = .ok .clearErr

/-- R155: when the next event is the host's write of a word to CMD and no command is pending, the step
answers the write, sets `CMD_RESULT.OPCODE <- w[31:24]`, and executes the decoded command: `exec` of
it, or the ILLEGAL answer. The model runs no other event in that step. The last clause is the model's
choice (assumption log 1): R159 says only that `WR CMD, w` is that write. The model keeps the host's
remaining statements in `State.program` and makes the host's turn an event, and the turn at that `WR`
is the same step with the program moved on. -/
def Obligations.StepExecutesDecodedCommand : Prop :=
  ∀ (s : State) (w : Word) (rest : List Event),
    (s.schedule = .host (.write 0x0000000C#32 .b4 w) :: rest → s.cmd.pending = .none →
      let latched : State :=
        { s with
          schedule := rest
          reply := some ⟨.ok, 0#32⟩
          cmd.opcode := w.extractLsb' 24 8 }
      (∀ i, decode w = .ok i → step s = exec i latched) ∧
      (∀ e, decode w = .error e →
        step s = .next
          { latched with
            cmd.code := .illegal
            cmd.data := 0#8
            rep.irqPend := s.rep.irqPend ||| 0b01000#5 })) ∧
    (∀ p, s.schedule = .program :: rest → s.program = .wr 0x0000000C#32 w :: p →
      step s = step
        { s with schedule := .host (.write 0x0000000C#32 .b4 w) :: rest, program := p })

/-- R474: an illegal word is answered with ILLEGAL, with the write's response OK, and changes nothing
else; while a command is pending it is refused as any other word is. -/
def Obligations.IllegalWordIsAnswered : Prop :=
  ∀ (s : State) (w : Word) (e : DecodeError), decode w = .error e →
    (s.cmd.pending = .none →
      hostWrite 0x0000000C#32 .b4 w s = .next
        { s with
          reply := some ⟨.ok, 0#32⟩
          cmd := ⟨.none, .illegal, 0#8, w.extractLsb' 24 8⟩
          rep.irqPend := s.rep.irqPend ||| 0b01000#5 }) ∧
    (s.cmd.pending ≠ .none →
      hostWrite 0x0000000C#32 .b4 w s = .next
        { s with
          reply := some ⟨.err, 0#32⟩
          rep.busErrAddr := 0x0000000C#32
          rep.irqPend := s.rep.irqPend ||| 0b10000#5 })

/-- R157: while a command is pending, a write to CMD, of any word, is a bus error and nothing else. -/
def Obligations.BusyCommandPortRefuses : Prop :=
  ∀ (s : State) (w : Word), s.cmd.pending ≠ .none →
    hostWrite 0x0000000C#32 .b4 w s = .next
      { s with
        reply := some ⟨.err, 0#32⟩
        rep.busErrAddr := 0x0000000C#32
        rep.irqPend := s.rep.irqPend ||| 0b10000#5 }

/-! ### The commands -/

/-- R470: the word 0x00000000 is NOP and no other word of its opcode is; NOP reports OK and changes
nothing else, in every state. -/
def Obligations.NopReportsOk : Prop :=
  decode 0x00000000#32 = .ok .nop ∧
  (∀ f : BitVec 24, f ≠ 0#24 → ∃ e, decode (0x00#8 ++ f) = .error e) ∧
  ∀ s : State, exec .nop s = .next
    { s with
      cmd.code := .ok
      cmd.data := 0#8
      rep.irqPend := s.rep.irqPend ||| 0b01000#5 }

/-- R472: the word 0x06000000 is CLEAR_ERR and no other word of its opcode is; CLEAR_ERR clears the error
record, reports OK and changes nothing else, in every state; ERR then reads 0. -/
def Obligations.ClearErrClearsTheRecord : Prop :=
  decode 0x06000000#32 = .ok .clearErr ∧
  (∀ f : BitVec 24, f ≠ 0#24 → ∃ e, decode (0x06#8 ++ f) = .error e) ∧
  ∀ s : State, ∃ t, exec .clearErr s = .next t ∧ t.errWord = 0#32 ∧
    t = { s with
      err := t.err
      cmd.code := .ok
      cmd.data := 0#8
      rep.irqPend := s.rep.irqPend ||| 0b01000#5 }

/-- R206 with R200, R201 and R203 written out: the word 0x01VVUUYY is CONVERT_PIXEL of its samples,
whatever they are; it loads PIX_RGB and PIX_565, reports OK and changes nothing else, in every state. -/
def Obligations.ConvertPixelLoadsTheRegisters : Prop :=
  ∀ (s : State) (y u v : Byte),
    let c : Int := (y.toNat : Int) - 16
    let d : Int := (u.toNat : Int) - 128
    let e : Int := (v.toNat : Int) - 128
    let clamp (x : Int) : Byte := BitVec.ofNat 8 (max 0 (min 255 x)).toNat
    let r := clamp ((298 * c + 409 * e + 128) / 256)
    let g := clamp ((298 * c - 100 * d - 208 * e + 128) / 256)
    let b := clamp ((298 * c + 516 * d + 128) / 256)
    decode (0x01#8 ++ v ++ u ++ y) = .ok (.convertPixel y.toNat u.toNat v.toNat) ∧
    ∃ t, exec (.convertPixel y.toNat u.toNat v.toNat) s = .next t ∧
      t.pixRgbWord = 0#8 ++ b ++ g ++ r ∧
      t.pix.packed = r.extractLsb' 3 5 ++ g.extractLsb' 2 6 ++ b.extractLsb' 3 5 ∧
      t = { s with
        pix := t.pix
        cmd.code := .ok
        cmd.data := 0#8
        rep.irqPend := s.rep.irqPend ||| 0b01000#5 }

/-- R242 in full: ACQUIRE gives the host the back buffer and returns its index; in Camera mode under the
FSM it is MODE_OWNED; during a session, with a buffer owned, a present in progress or a switch pending
it is OWNER_CONFLICT. A refusal writes CMD_RESULT and CMD_DONE alone. -/
def Obligations.AcquireTakesTheBackBuffer : Prop :=
  decode 0x04000000#32 = .ok .acquire ∧
  (∀ f : BitVec 24, f ≠ 0#24 → ∃ e, decode (0x04#8 ++ f) = .error e) ∧
  ∀ s : State,
    let owned := s.fsm.en = true ∧ s.fsm.mode = .camera
    let conflict := s.sess.active = true ∨ s.pool.owner ≠ .none ∨ s.spi.busy = true ∨
      s.fsm.switchPending = true
    let refused (c : ResultCode) : Host.Outcome State Fault Refusal := .next
      { s with
        cmd.code := c
        cmd.data := 0#8
        rep.irqPend := s.rep.irqPend ||| 0b01000#5 }
    (owned → exec .acquire s = refused .modeOwned) ∧
    (¬owned → conflict → exec .acquire s = refused .ownerConflict) ∧
    (¬owned → ¬conflict →
      exec .acquire s = .next
        { s with
          pool.owner := .host
          cmd.code := .ok
          cmd.data := if s.pool.front = .fb0 then 1#8 else 0#8
          rep.irqPend := s.rep.irqPend ||| 0b01000#5 })

/-- R243: COMMIT of an acquired buffer swaps the roles, frees the buffer, starts the present of the new
front, and leaves the command PENDING; with no acquired buffer it is OWNER_CONFLICT and writes
CMD_RESULT and CMD_DONE alone. -/
def Obligations.CommitSwapsAndPresents : Prop :=
  ∀ s : State,
    (s.pool.owner = .host →
      exec .commit s = .next
        { s with
          pool := ⟨s.pool.front.other, .none⟩
          spi.buf := s.pool.front.other
          spi.len := BitVec.ofNat 32 (2 * (s.geom.width.toNat * s.geom.height.toNat))
          spi.idx := 0#32
          spi.cmdPhase := s.spi.cmdEn
          spi.cmdV := s.spi.cmdByte
          spi.src := .host
          spi.busy := true
          spi.csN := false
          spi.current := ⟨none, [], false⟩
          cmd.pending := .commit
          cmd.code := .pending
          cmd.data := 0#8 }) ∧
    (s.pool.owner ≠ .host →
      exec .commit s = .next
        { s with
          cmd.code := .ownerConflict
          cmd.data := 0#8
          rep.irqPend := s.rep.irqPend ||| 0b01000#5 })

/-- R321 in full, for both source kinds: which START begins a session and what a session begins with; and
that a refused one, with the first reason in the rule's order, writes CMD_RESULT and CMD_DONE alone. -/
def Obligations.StartBeginsASession : Prop :=
  decode 0x02000000#32 = .ok .startFile ∧ decode 0x02000001#32 = .ok .startStream ∧
  (∀ f : BitVec 24, f.extractLsb' 1 23 ≠ 0#23 → ∃ e, decode (0x02#8 ++ f) = .error e) ∧
  ∀ s : State,
    let camera := s.fsm.mode = .camera ∧ s.fsm.switchPending = false
    let conflict := s.pool.owner ≠ .none ∨ s.spi.busy = true
    let refused (c : ResultCode) : Host.Outcome State Fault Refusal := .next
      { s with
        cmd.code := c
        cmd.data := 0#8
        rep.irqPend := s.rep.irqPend ||| 0b01000#5 }
    let begun (k : Kind) : Host.Outcome State Fault Refusal := .next
      { s with
        sess.active := true
        sess.kind := k
        sess.cancel := false
        sess.frameCount := 0#32
        sess.firstFrameDone := false
        sess.startTs := s.cycle
        sess.phase := .top
        source.streamEnd := .none
        source.acc := 0#32
        source.filePos := 0#32
        cmd.code := .ok
        cmd.data := 0#8
        rep.irqPend := s.rep.irqPend ||| 0b01000#5 }
    (s.fsm.en = true → exec .startFile s = refused .modeOwned) ∧
    (s.fsm.en = false → s.sess.active = true → exec .startFile s = refused .alreadyActive) ∧
    (s.fsm.en = false → s.sess.active = false → conflict →
      exec .startFile s = refused .ownerConflict) ∧
    (s.fsm.en = false → s.sess.active = false → ¬conflict → exec .startFile s = begun .file) ∧
    (s.fsm.en = true → ¬camera → exec .startStream s = refused .modeOwned) ∧
    (s.fsm.en = false ∨ camera → s.sess.active = true →
      exec .startStream s = refused .alreadyActive) ∧
    (s.fsm.en = false ∨ camera → s.sess.active = false → conflict →
      exec .startStream s = refused .ownerConflict) ∧
    (s.fsm.en = false ∨ camera → s.sess.active = false → ¬conflict →
      exec .startStream s = begun .stream)

/-- R322: STOP of an Active session with the FSM off sets the cancellation flag and leaves the command
PENDING; with the FSM on it is MODE_OWNED, while Inactive it is NOT_ACTIVE, and either writes
CMD_RESULT and CMD_DONE alone. -/
def Obligations.StopCancelsTheSession : Prop :=
  ∀ s : State,
    let refused (c : ResultCode) : Host.Outcome State Fault Refusal := .next
      { s with
        cmd.code := c
        cmd.data := 0#8
        rep.irqPend := s.rep.irqPend ||| 0b01000#5 }
    (s.fsm.en = true → exec .stop s = refused .modeOwned) ∧
    (s.fsm.en = false → s.sess.active = false → exec .stop s = refused .notActive) ∧
    (s.fsm.en = false → s.sess.active = true →
      exec .stop s = .next
        { s with
          sess.cancel := true
          cmd.pending := .stop
          cmd.code := .pending
          cmd.data := 0#8 })

/-- R500: a code other than OK (and PENDING, which is no outcome yet) means that nothing was written but
CMD_RESULT and CMD_DONE. -/
def Obligations.RefusedCommandsHaveNoEffect : Prop :=
  ∀ (i : Instr) (s t : State), exec i s = .next t → t.cmd.code ≠ .ok → t.cmd.code ≠ .pending →
    t = { s with
      cmd.code := t.cmd.code
      cmd.data := t.cmd.data
      rep.irqPend := s.rep.irqPend ||| 0b01000#5 }

/-- The frame of the eight commands: none stores to a memory, none touches an interrupt bit but CMD_DONE,
and each register group and PENDING_CMD is written only by the commands whose rules write it. -/
def Obligations.CommandsKeepEverythingElse : Prop :=
  ∀ (i : Instr) (s t : State), exec i s = .next t →
    (∀ (b : Buf) (a : Nat), (t.fb b).read a = (s.fb b).read a) ∧
    (∀ a : Nat, t.srcMem.read a = s.srcMem.read a) ∧
    t.geom = s.geom ∧ t.deb = s.deb ∧ t.fsm = s.fsm ∧ t.cycle = s.cycle ∧
    t.rep.irqEn = s.rep.irqEn ∧ t.rep.busErrAddr = s.rep.busErrAddr ∧
    t.sess.framePeriod = s.sess.framePeriod ∧ t.sess.t0 = s.sess.t0 ∧
    t.source.fileLen = s.source.fileLen ∧ t.source.frameBase = s.source.frameBase ∧
    t.cmd.opcode = s.cmd.opcode ∧ t.reply = s.reply ∧ t.params = s.params ∧ t.draws = s.draws ∧
    t.drawnEvents = s.drawnEvents ∧ t.schedule = s.schedule ∧ t.program = s.program ∧
    (∀ b, b ≠ 3 → t.rep.irqPend.getLsbD b = s.rep.irqPend.getLsbD b) ∧
    (i ≠ .stop → i ≠ .commit → t.cmd.pending = s.cmd.pending) ∧
    ((∀ y u v, i ≠ .convertPixel y u v) → t.pix = s.pix) ∧
    (i ≠ .clearErr → t.err = s.err) ∧
    (i ≠ .acquire → i ≠ .commit → t.pool = s.pool) ∧
    (i ≠ .commit → t.spi = s.spi) ∧
    (i ≠ .startFile → i ≠ .startStream → t.source = s.source) ∧
    (i ≠ .startFile → i ≠ .startStream → i ≠ .stop → t.sess = s.sess)

/-! ### D17 -/

/-- R202: the ranges of the pre-shift sums over all samples, each end reached; that a signed 19-bit
datapath holds every intermediate; and that the clamped result is the same whether the shift floors
or truncates toward zero. -/
def Obligations.ShiftKindDoesNotMatter : Prop :=
  (∀ y u v : Nat, y < 256 → u < 256 → v < 256 →
    let c : Int := (y : Int) - 16
    let d : Int := (u : Int) - 128
    let e : Int := (v : Int) - 128
    (∀ x : Int, x = 298 * c ∨ x = 409 * e ∨ x = 298 * c + 409 * e ∨ x = 100 * d ∨ x = 208 * e ∨
        x = 298 * c - 100 * d ∨ x = 298 * c - 100 * d - 208 * e ∨ x = 516 * d ∨
        x = 298 * c + 516 * d ∨ x = sumR y v ∨ x = sumG y u v ∨ x = sumB y u →
      -2 ^ 18 ≤ x ∧ x < 2 ^ 18) ∧
    (-56992 ≤ sumR y v ∧ sumR y v ≤ 123293) ∧
    (-43756 ≤ sumG y u v ∧ sumG y u v ≤ 110774) ∧
    (-70688 ≤ sumB y u ∧ sumB y u ≤ 136882) ∧
    (convert y u v).r = clamp8 (sumR y v / 256) ∧ (convert y u v).r = clamp8 ((sumR y v).tdiv 256) ∧
    (convert y u v).g = clamp8 (sumG y u v / 256) ∧
    (convert y u v).g = clamp8 ((sumG y u v).tdiv 256) ∧
    (convert y u v).b = clamp8 (sumB y u / 256) ∧ (convert y u v).b = clamp8 ((sumB y u).tdiv 256)) ∧
  sumR 0 0 = -56992 ∧ sumR 255 255 = 123293 ∧ sumG 0 255 255 = -43756 ∧ sumG 255 0 0 = 110774 ∧
  sumB 0 0 = -70688 ∧ sumB 255 255 = 136882

/-- R203: where each bit of the packed pixel comes from, and that `|` is also `+`. -/
def Obligations.PackedPixelFields : Prop :=
  ∀ c : Rgb,
    (pack565 c).extractLsb' 11 5 = c.r.extractLsb' 3 5 ∧
    (pack565 c).extractLsb' 5 6 = c.g.extractLsb' 2 6 ∧
    (pack565 c).extractLsb' 0 5 = c.b.extractLsb' 3 5 ∧
    (pack565 c).toNat = c.r.toNat / 8 * 2048 + c.g.toNat / 4 * 32 + c.b.toNat / 8

/-- R210, R211, R212 and R111: after the frame pass, pixel (row, col) of the painted buffer holds, high
byte first, the converted pixel of its luma sample and of the chroma samples at (row/2, col/2), for
every frame whose samples there have been written. -/
def Obligations.FramePassPaintsEveryPixel : Prop :=
  ∀ (s : State) (base : Nat) (k : Buf) (row col : Nat) (y u v : Byte),
    let w := s.geom.width.toNat
    let h := s.geom.height.toNat
    let p := row * w + col
    let ci := row / 2 * (w / 2) + col / 2
    let first := base + w * h + ci
    let second := base + w * h + w * h / 4 + ci
    let pix := pack565 (convert y.toNat u.toNat v.toNat)
    row < h → col < w →
    s.srcMem.read (base + p) = some y →
    s.srcMem.read (if s.geom.uvSwap then second else first) = some u →
    s.srcMem.read (if s.geom.uvSwap then first else second) = some v →
    ((framePass base k s).fb k).read (2 * p) = some (pix.extractLsb' 8 8) ∧
    ((framePass base k s).fb k).read (2 * p + 1) = some (pix.extractLsb' 0 8)

/-- R212: the frame pass writes no byte from 2*W*H on, not the other buffer, not SRC, and nothing else
(the model's count of draws apart, assumption log 3). -/
def Obligations.FramePassWritesOnlyTheFrame : Prop :=
  ∀ (s : State) (base : Nat) (k : Buf),
    (∀ a, 2 * (s.geom.width.toNat * s.geom.height.toNat) ≤ a →
      ((framePass base k s).fb k).read a = (s.fb k).read a) ∧
    (∀ a, ((framePass base k s).fb k.other).read a = (s.fb k.other).read a) ∧
    { framePass base k s with fb0 := s.fb0, fb1 := s.fb1, draws := s.draws } = s

/-! ### D25 and the worker -/

/-- R245, R246 and R247: CONVERT.END of a frame that fits its memories paints the back buffer, makes it
the front, frees it and starts its present. -/
def Obligations.ConvertEndPresentsThePaintedBuffer : Prop :=
  ∀ s : State, s.sess.phase = .convert →
    s.source.frameBase.toNat + s.geom.width.toNat * s.geom.height.toNat * 3 / 2 ≤ s.params.srcBytes →
    2 * (s.geom.width.toNat * s.geom.height.toNat) ≤ s.params.maxW * s.params.maxH * 2 →
    let painted := framePass s.source.frameBase.toNat s.pool.front.other s
    workerStep s = .next
      { painted with
        pool := ⟨s.pool.front.other, .none⟩
        spi.buf := s.pool.front.other
        spi.len := BitVec.ofNat 32 (2 * (s.geom.width.toNat * s.geom.height.toNat))
        spi.idx := 0#32
        spi.cmdPhase := s.spi.cmdEn
        spi.cmdV := s.spi.cmdByte
        spi.src := .worker
        spi.busy := true
        spi.csN := false
        spi.current := ⟨none, [], false⟩
        sess.phase := .present }

/-- R281 and R282: FETCH.FILE takes the chunk at FILE_POS, or rewinds to 0 on a short read, or ends the
session with CLOSED (empty image) or SHORT_READ. -/
def Obligations.FileFetchTakesRewindsOrFails : Prop :=
  ∀ s : State, s.sess.active = true → s.sess.kind = .file → s.sess.phase = .fetch →
    let fs := s.geom.width.toNat * s.geom.height.toNat * 3 / 2
    (s.source.filePos.toNat + fs ≤ s.source.fileLen.toNat →
      workerStep s = .next
        { s with
          source.frameBase := s.source.filePos
          source.filePos := s.source.filePos + BitVec.ofNat 32 fs
          pool.owner := .worker
          sess.phase := .convert }) ∧
    (s.source.fileLen.toNat < s.source.filePos.toNat + fs → fs ≤ s.source.fileLen.toNat →
      workerStep s = .next
        { s with
          source.frameBase := 0#32
          source.filePos := BitVec.ofNat 32 fs
          pool.owner := .worker
          sess.phase := .convert }) ∧
    (s.source.fileLen.toNat < fs →
      workerStep s =
        .next (sessionEnd (.fatal (if s.source.fileLen = 0#32 then .closed else .shortRead)) s))

/-- R285 and R287: a complete stream frame goes on to CONVERT, whatever the latch holds; an incomplete
one fails once the stream has ended, with the cause of R287's table. -/
def Obligations.StreamFetchCompletesOrFails : Prop :=
  ∀ s : State, s.sess.active = true → s.sess.kind = .stream → s.sess.phase = .fetch →
    let fs := s.geom.width.toNat * s.geom.height.toNat * 3 / 2
    (s.source.acc.toNat = fs →
      workerStep s = .next
        { s with
          source.frameBase := 0#32
          pool.owner := .worker
          sess.phase := .convert }) ∧
    (s.source.streamEnd = .error → s.source.acc.toNat < fs →
      workerStep s = .next (sessionEnd (.fatal .closed) s)) ∧
    (s.source.streamEnd = .closed → s.source.acc.toNat = 0 → 0 < fs →
      workerStep s = .next (sessionEnd (.fatal .closed) s)) ∧
    (s.source.streamEnd = .closed → 0 < s.source.acc.toNat → s.source.acc.toNat < fs →
      workerStep s = .next (sessionEnd (.fatal .shortRead) s))

/-- R284, R286 and R569: the byte at the port moves into SRC[ACC] exactly when `s_ready`, and is held
otherwise; the first close or error of a Stream session is latched, any other is ignored. -/
def Obligations.StreamPortTakesBytesAndPulses : Prop :=
  ∀ (s : State) (x : Byte) (rest : List Byte),
    let fs := s.geom.width.toNat * s.geom.height.toNat * 3 / 2
    let ready := s.sess.active = true ∧ s.sess.kind = .stream ∧ s.sess.phase = .fetch ∧
      s.source.acc.toNat < fs ∧ s.source.streamEnd = .none
    let latches := s.sess.active = true ∧ s.sess.kind = .stream ∧ s.source.streamEnd = .none
    (s.sReady = true ↔ ready) ∧
    (s.source.offered = x :: rest → ready → s.source.acc.toNat < s.params.srcBytes →
      ∃ t, producerStep .push s = .next t ∧
        t.srcMem.read s.source.acc.toNat = some x ∧
        (∀ a, a ≠ s.source.acc.toNat → t.srcMem.read a = s.srcMem.read a) ∧
        t = { s with
          srcMem := t.srcMem
          source.acc := s.source.acc + 1#32
          source.offered := rest }) ∧
    (¬ready → producerStep .push s = .next s) ∧
    (latches → producerStep .close s = .next { s with source.streamEnd := .closed } ∧
      producerStep .error s = .next { s with source.streamEnd := .error }) ∧
    (¬latches → producerStep .close s = .next s ∧ producerStep .error s = .next s)

/-- R288 and R561: while the producer neither completes the frame nor closes, no event but the
producer's or a reset moves the worker out of FETCH, ends the session, completes a pending STOP, or
lets a command word be executed under one. -/
def Obligations.StalledProducerHoldsTheWorker : Prop :=
  ∀ (s t : State) (e : Event), s.sess.active = true → s.sess.kind = .stream →
    s.sess.phase = .fetch → s.source.streamEnd = .none →
    s.source.acc.toNat < s.geom.width.toNat * s.geom.height.toNat * 3 / 2 →
    e ≠ .reset → (∀ a, e ≠ .producer a) → runEvent e s = .next t →
    t.sess.active = true ∧ t.sess.kind = .stream ∧ t.sess.phase = .fetch ∧
    t.source.streamEnd = .none ∧ t.source.acc = s.source.acc ∧
    t.geom.width = s.geom.width ∧ t.geom.height = s.geom.height ∧
    (s.cmd.pending = .stop → t.cmd = s.cmd)

/-- R335, in full: what ending a session writes, by reason, and what it leaves; that no buffer is owned
and no present runs at its call sites, TOP and FETCH; and that a pending mode switch can then complete. -/
def Obligations.SessionEndRecordsTheReason : Prop :=
  ∀ (s : State) (r : EndReason),
    let pend := s.rep.irqPend ||| 0b00010#5
    sessionEnd r s =
      { s with
        sess.active := false
        sess.phase := .idle
        sess.cancel := false
        err := match r with
          | .stopped => s.err
          | .fatal c => ⟨c, !s.sess.firstFrameDone, s.sess.kind⟩
        cmd.pending := if s.cmd.pending = .stop then .none else s.cmd.pending
        cmd.code := if s.cmd.pending = .stop then .ok else s.cmd.code
        rep.irqPend := if s.cmd.pending = .stop then pend ||| 0b01000#5 else pend } ∧
    (ArbiterInv s → s.sess.phase = .top ∨ s.sess.phase = .fetch →
      s.pool.owner = .none ∧ s.spi.busy = false ∧
      (sessionEnd r s).switchReady = s.fsm.switchPending)

/-- R326 and R332: TOP ends a cancelled session, or records the start time and goes on to FETCH; PACE
goes back to TOP exactly when `(CYCLE - T0) mod 2^32 >= FRAME_PERIOD`. -/
def Obligations.PacingLoopTurns : Prop :=
  ∀ s : State,
    (s.sess.phase = .top → s.sess.cancel = true → workerStep s = .next (sessionEnd .stopped s)) ∧
    (s.sess.phase = .top → s.sess.cancel = false →
      workerStep s = .next
        { s with
          sess.t0 := s.cycle
          source.acc := if s.sess.kind = .stream then 0#32 else s.source.acc
          sess.phase := .fetch }) ∧
    (s.sess.phase = .pace →
      s.sess.framePeriod.toNat ≤ (s.cycle.toNat + 2 ^ 32 - s.sess.t0.toNat) % 2 ^ 32 →
      workerStep s = .next { s with sess.phase := .top }) ∧
    (s.sess.phase = .pace →
      (s.cycle.toNat + 2 ^ 32 - s.sess.t0.toNat) % 2 ^ 32 < s.sess.framePeriod.toNat →
      workerStep s = .next s)

/-- R331: PRESENT.DONE waits for the present to end, then counts the frame and raises FRAME_DONE. -/
def Obligations.PresentDoneCountsTheFrame : Prop :=
  ∀ s : State, s.sess.phase = .present →
    (s.spi.busy = true → workerStep s = .next s) ∧
    (s.spi.busy = false →
      workerStep s = .next
        { s with
          sess.frameCount := s.sess.frameCount + 1#32
          sess.firstFrameDone := true
          sess.phase := .pace
          rep.irqPend := s.rep.irqPend ||| 0b00001#5 })

/-! ### D19/D27 -/

/-- R372, R373 and R374: from the start of a present whose bytes have been written, one SPI step per byte
and one more send the command byte if CMD_EN was 1 and then the payload bytes of the buffer in
address order, and the record of exactly that transaction stands at the end of those sent. -/
def Obligations.PresentSendsTheBufferInOrder : Prop :=
  ∀ (s : State) (src : Presenter) (k : Buf) (n : Nat),
    n = 2 * (s.geom.width.toNat * s.geom.height.toNat) → n ≤ s.params.maxW * s.params.maxH * 2 →
    n < 2 ^ 32 → (∀ a, a < n → ((s.fb k).read a).isSome = true) →
    ∃ t, runEvents (List.replicate ((if s.spi.cmdEn then 1 else 0) + n + 1) .spi)
        (spiStart k src s) = .next t ∧
      t.spi.busy = false ∧ t.spi.csN = true ∧ t.spi.dc = true ∧ t.spi.mosi = false ∧
      t.spi.sent = s.spi.sent ++
        [⟨if s.spi.cmdEn then some s.spi.cmdByte else none, storedBytes (s.fb k) n, false⟩] ∧
      t.fb0 = s.fb0 ∧ t.fb1 = s.fb1 ∧ t.draws = s.draws

/-- R373: the end of a present releases the pins, and completes the COMMIT that started it; a worker
waiting in PRESENT then has PRESENT.DONE as its step. -/
def Obligations.PresentEndCompletesCommit : Prop :=
  ∀ s : State, s.spi.busy = true → s.spi.cmdPhase = false → s.spi.idx = s.spi.len →
    let commits := s.spi.src = .host ∧ s.cmd.pending = .commit
    let t : State :=
      { s with
        spi.csN := true
        spi.dc := true
        spi.mosi := false
        spi.busy := false
        spi.sent := s.spi.sent ++ [s.spi.current]
        cmd.pending := if commits then .none else s.cmd.pending
        cmd.code := if commits then .ok else s.cmd.code
        rep.irqPend := if commits then s.rep.irqPend ||| 0b01000#5 else s.rep.irqPend }
    spiStep s = .next t ∧ (s.sess.phase = .present → t.workerOp = some .presentDone)

/-- R370 and R372: a byte's waveform takes 16*SPI_DIV cycles; bit 7-i has sclk low for SPI_DIV cycles and
then high for SPI_DIV cycles, with mosi at the bit throughout. An SPI byte puts the waveform of the
command byte, with spi_dc = 0, or of the next payload byte, with spi_dc = 1, on the pins. That mosi
takes the bit in the first low cycle, and keeps the byte's last bit after it, is the model's choice
(assumption log 8). An unwritten payload byte is some value (R20). -/
def Obligations.ByteWaveformIsModeZero : Prop :=
  (∀ (div : Nat) (x : Byte),
    (byteWave div x).length = 16 * div ∧
    ∀ i j : Nat, i < 8 → j < div →
      (byteWave div x)[2 * i * div + j]? = some ⟨false, x.getLsbD (7 - i)⟩ ∧
      (byteWave div x)[(2 * i + 1) * div + j]? = some ⟨true, x.getLsbD (7 - i)⟩) ∧
  ∀ s : State, s.spi.busy = true →
    (s.spi.cmdPhase = true →
      spiStep s = .next
        { s with
          spi.dc := false
          spi.wave := byteWave s.spi.div.toNat s.spi.cmdV
          spi.sclk := false
          spi.mosi := s.spi.cmdV.getLsbD 0
          spi.cmdPhase := false
          spi.current.cmd := some s.spi.cmdV }) ∧
    (s.spi.cmdPhase = false → s.spi.idx < s.spi.len →
      s.spi.idx.toNat < s.params.maxW * s.params.maxH * 2 →
      ∃ x d, (∀ y, (s.fb s.spi.buf).read s.spi.idx.toNat = some y → x = y ∧ d = s.draws) ∧
        spiStep s = .next
          { s with
            spi.dc := true
            spi.wave := byteWave s.spi.div.toNat x
            spi.sclk := false
            spi.mosi := x.getLsbD 0
            spi.idx := s.spi.idx + 1#32
            spi.current.payload := s.spi.current.payload ++ [x]
            draws := d })

/-! ### D26 -/

/-- R401 and R402: from the start of a window, the samples are the levels at every DEB_INTERVAL-th TICK;
the DEB_COUNT-th sample completes the window, which reports the level all samples agree on or
Unstable, together with the stable level before it, and no earlier TICK completes one. -/
def Obligations.WindowReportsWhatItsSamplesAgreeOn : Prop :=
  ∀ (s : State) (lvls : List Bool) (n i : Nat),
    s.deb.tmr = 0#16 → s.deb.k = 0#8 → n = s.deb.count.toNat → i = s.deb.interval.toNat →
    0 < n → 0 < i → lvls.length = (n - 1) * i + 1 →
    let r : Window :=
      if ∀ j, j < n → lvls[j * i]? = some true then .high
      else if ∀ j, j < n → lvls[j * i]? = some false then .low
      else .unstable
    let d := debounceRun lvls s
    d.2 = [⟨r, s.deb.lastStable⟩] ∧
    d.1.deb.k = 0#8 ∧ d.1.deb.tmr.toNat = i - 1 ∧
    d.1.deb.lastResult = r.result ∧
    d.1.deb.lastStable = (if r = .high then .high else if r = .low then .low else s.deb.lastStable)

/-- R402: after a sample the next one is exactly DEB_INTERVAL TICKs later: the TICKs before it only count
DB_TMR down, whatever the pin does. -/
def Obligations.NoSampleBetweenSamples : Prop :=
  ∀ (s : State) (lvls : List Bool), lvls.length = s.deb.tmr.toNat →
    (debounceRun lvls s).2 = [] ∧
    (debounceRun lvls s).1 = { s with deb.tmr := 0#16 }

/-- R403 with R56 and R57: a legal write of DEB_INTERVAL or DEB_COUNT stores it and restarts the window,
so that the next TICK takes the first sample; an illegal one changes nothing (but the response). -/
def Obligations.DebounceWritesRestartTheWindow : Prop :=
  ∀ (s : State) (v : Word),
    let restarts (a : Word) (stored : State) : Prop :=
      let t : State :=
        { stored with
          reply := some ⟨.ok, 0#32⟩
          deb.tmr := 0#16
          deb.k := 0#8
          deb.agree := true }
      hostWrite a .b4 v s = .next t ∧
      ∀ b, (tickStep b t).deb.pin = s.deb.sync2 ∧ (tickStep b t).deb.first = s.deb.sync2
    (v.extractLsb' 0 16 ≠ 0#16 →
      restarts 0x00000040#32 { s with deb.interval := v.extractLsb' 0 16 }) ∧
    (v.extractLsb' 0 16 = 0#16 →
      hostWrite 0x00000040#32 .b4 v s = .next { s with reply := some ⟨.ok, 0#32⟩ }) ∧
    (v.extractLsb' 0 8 ≠ 0#8 →
      restarts 0x00000044#32 { s with deb.count := v.extractLsb' 0 8 }) ∧
    (v.extractLsb' 0 8 = 0#8 →
      hostWrite 0x00000044#32 .b4 v s = .next { s with reply := some ⟨.ok, 0#32⟩ })

/-- R433 with R435, case by case. -/
def Obligations.GestureStepFollowsTheWindows : Prop :=
  ∀ (s : State) (w : WindowEnd),
    (s.fsm.en = false ∨ s.fsm.switchPending = true ∨ w.r = .unstable → gestureStep w s = s) ∧
    (s.fsm.en = true → s.fsm.switchPending = false →
      (s.fsm.gesture = .idle → w.r = .high → w.p = .low →
        gestureStep w s =
          { s with fsm.gesture := .pressed, fsm.holdCnt := 1#8, fsm.lastEvent := .pressed }) ∧
      (s.fsm.gesture = .idle → w.r = .low ∨ (w.r = .high ∧ w.p ≠ .low) →
        gestureStep w s = { s with fsm.lastEvent := .idle }) ∧
      (s.fsm.gesture ≠ .idle → w.r = .high →
        gestureStep w s =
          { s with
            fsm.gesture := .held
            fsm.holdCnt := BitVec.ofNat 8 (min (s.fsm.holdCnt.toNat + 1) 255)
            fsm.lastEvent := .held }) ∧
      (s.fsm.gesture ≠ .idle → w.r = .low → s.fsm.holdCnt.toNat < s.fsm.holdMin.toNat →
        gestureStep w s =
          { s with fsm.gesture := .idle, fsm.holdCnt := 0#8, fsm.lastEvent := .released }) ∧
      (s.fsm.gesture ≠ .idle → w.r = .low → s.fsm.holdMin.toNat ≤ s.fsm.holdCnt.toNat →
        gestureStep w s =
          { s with
            fsm.gesture := .idle
            fsm.holdCnt := 0#8
            fsm.lastEvent := .released
            fsm.switchPending := true
            fsm.switchTarget := if s.fsm.mode = .camera then .navigation else .camera
            sess.cancel := s.sess.active || s.sess.cancel }))

/-- R17 and R400: a TICK samples SYNC2 and shifts the synchroniser, runs the debounce step, then the
gesture step if a window ended, then the dwell step, and adds 1 to CYCLE. R438 and R439: its dwell step
counts the TICKs in Camera mode, saturating, and requests Navigation when DWELL reaches a nonzero
DWELL_MAX; outside Camera, or with a switch pending, it does nothing. -/
def Obligations.DwellStepCountsAndExpires : Prop :=
  (∀ (s : State) (btn : Bool),
    let d := debounceStep s.deb.sync2 { s with deb.sync1 := btn, deb.sync2 := s.deb.sync1 }
    let g := match d.2 with
      | none => d.1
      | some w => gestureStep w d.1
    runEvent (.tick btn) s = .next { dwellStep g with cycle := s.cycle + 1#32 }) ∧
  ∀ s : State,
    let counting := s.fsm.en = true ∧ s.fsm.mode = .camera ∧ s.fsm.switchPending = false
    let next := min (s.fsm.dwell.toNat + 1) (2 ^ 32 - 1)
    (¬counting → dwellStep s = s) ∧
    (counting → s.fsm.dwellMax = 0#32 ∨ next < s.fsm.dwellMax.toNat →
      dwellStep s = { s with fsm.dwell := BitVec.ofNat 32 next }) ∧
    (counting → s.fsm.dwellMax ≠ 0#32 → s.fsm.dwellMax.toNat ≤ next →
      dwellStep s =
        { s with
          fsm.dwell := BitVec.ofNat 32 next
          fsm.switchPending := true
          fsm.switchTarget := .navigation
          fsm.gesture := .idle
          fsm.holdCnt := 0#8
          sess.cancel := s.sess.active || s.sess.cancel })

/-- R436: the MODESW step waits for its guard, then enters the target mode, raises MODE_CHANGE if the mode
changes, and on entry to Camera clears DWELL and begins a Stream session. What SWITCH_TARGET reads
once no switch is pending is left out of it (assumption log 7). -/
def Obligations.SwitchCompletesWhenTheBlockIsFree : Prop :=
  ∀ s : State,
    let t := modeswStep s
    let free := s.fsm.switchPending = true ∧ s.sess.active = false ∧ s.pool.owner = .none ∧
      s.spi.busy = false
    let irq := if s.fsm.mode = s.fsm.switchTarget then s.rep.irqPend
      else s.rep.irqPend ||| 0b00100#5
    (¬free → t = s) ∧
    (free → s.fsm.switchTarget = .navigation →
      t =
        { s with
          fsm.switchPending := false
          fsm.switchTarget := t.fsm.switchTarget
          fsm.mode := .navigation
          rep.irqPend := irq }) ∧
    (free → s.fsm.switchTarget = .camera →
      t =
        { s with
          fsm.switchPending := false
          fsm.switchTarget := t.fsm.switchTarget
          fsm.mode := .camera
          fsm.dwell := 0#32
          rep.irqPend := irq
          sess.active := true
          sess.kind := .stream
          sess.cancel := false
          sess.frameCount := 0#32
          sess.firstFrameDone := false
          sess.startTs := s.cycle
          sess.phase := .top
          source.streamEnd := .none
          source.acc := 0#32
          source.filePos := 0#32 })

/-- R437, over every event but reset: MODE changes only by a MODESW step whose guard holds, and then
MODE_CHANGE is set; and MODE_CHANGE, not pending before, is set only when MODE changes. -/
def Obligations.ModeChangesOnlyByACompletedSwitch : Prop :=
  ∀ (e : Event) (s t : State), e ≠ .reset → runEvent e s = .next t →
    (t.fsm.mode ≠ s.fsm.mode →
      e = .modesw ∧ s.fsm.switchPending = true ∧ s.sess.active = false ∧
      t.fsm.mode = s.fsm.switchTarget ∧ t.irqPending .modeChange = true) ∧
    (s.irqPending .modeChange = false → t.irqPending .modeChange = true →
      t.fsm.mode ≠ s.fsm.mode)

/-- R440 with R41's locks: a CTRL write is refused while a switch is pending, or if it would change UV_SWAP
during a session. Any other stores MODE_EN and UV_SWAP; a rise of MODE_EN requests Navigation and
cancels a session, a fall clears the gesture, and no change has no side effect. -/
def Obligations.EnableWritesSwitchOrClear : Prop :=
  ∀ (s : State) (v : Word),
    let locked := s.fsm.switchPending = true ∨
      (s.sess.active = true ∧ v.getLsbD 1 ≠ s.geom.uvSwap)
    let written : State :=
      { s with
        reply := some ⟨.ok, 0#32⟩
        fsm.en := v.getLsbD 0
        geom.uvSwap := v.getLsbD 1 }
    (locked → hostWrite 0x00000004#32 .b4 v s = .next
      { s with
        reply := some ⟨.err, 0#32⟩
        rep.busErrAddr := 0x00000004#32
        rep.irqPend := s.rep.irqPend ||| 0b10000#5 }) ∧
    (¬locked → s.fsm.en = v.getLsbD 0 → hostWrite 0x00000004#32 .b4 v s = .next written) ∧
    (¬locked → s.fsm.en = false → v.getLsbD 0 = true →
      hostWrite 0x00000004#32 .b4 v s = .next
        { written with
          fsm.switchPending := true
          fsm.switchTarget := .navigation
          fsm.gesture := .idle
          fsm.holdCnt := 0#8
          sess.cancel := s.sess.active || s.sess.cancel }) ∧
    (¬locked → s.fsm.en = true → v.getLsbD 0 = false →
      hostWrite 0x00000004#32 .b4 v s = .next
        { written with
          fsm.gesture := .idle
          fsm.holdCnt := 0#8 })

/-- R55, R516 and R576: the CYCLE register reads the count of the TICKs since reset, modulo 2^32; no other
event moves it, a write to it included. -/
def Obligations.CycleCountsExactlyTheTicks : Prop :=
  (∀ s : State, readReg 0x03C s = s.cycle) ∧
  (∀ p : Params, (State.resetWith p).cycle = 0#32) ∧
  ∀ (e : Event) (s t : State), runEvent e s = .next t →
    (∀ b, e = .tick b → t.cycle = BitVec.ofNat 32 (s.cycle.toNat + 1)) ∧
    (e = .reset → t.cycle = 0#32) ∧
    (e ≠ .reset → (∀ b, e ≠ .tick b) → t.cycle = s.cycle)

/-! ### The host port -/

/-- R104 and R105 with R506: an access to the register region that is not an aligned 32-bit one, and a
misaligned access to a framebuffer window or to SRC, is refused: the response is ERR with data 0,
BUSERR_ADDR and BUS_ERR record it, and nothing else changes. -/
def Obligations.RegisterAccessMustBeAlignedWords : Prop :=
  ∀ (s : State) (a v : Word) (n : Size),
    let refused : State :=
      { s with
        reply := some ⟨.err, 0#32⟩
        rep.busErrAddr := a
        rep.irqPend := s.rep.irqPend ||| 0b10000#5 }
    (a.toNat < 0x1000 → ¬(n = .b4 ∧ a.toNat % 4 = 0) →
      hostRead a n s = refused ∧ hostWrite a n v s = .next refused) ∧
    ((0x01000000 ≤ a.toNat ∧ a.toNat < 0x03000000) ∨ (0x04000000 ≤ a.toNat ∧ a.toNat < 0x08000000) →
      a.toNat % n.bytes ≠ 0 →
      hostRead a n s = refused ∧ hostWrite a n v s = .next refused)

/-- R106, R107 and R108 for the aligned accesses whose bytes lie in a framebuffer or in SRC, with R100 and
R103: which are refused, as bus errors with no other effect; every other read returns the bytes of
that memory at the offset from the window's base, and every other write stores there and changes
nothing else. (A read of an unwritten byte is a fresh draw, assumption log 3.) -/
def Obligations.MemoryWindowsFollowOwnership : Prop :=
  ∀ (s : State) (a v : Word) (n : Size), a.toNat % n.bytes = 0 →
    let refused : State :=
      { s with
        reply := some ⟨.err, 0#32⟩
        rep.busErrAddr := a
        rep.irqPend := s.rep.irqPend ||| 0b10000#5 }
    let reads (m : Memory) (o : Nat) : State :=
      { s with
        reply := some ⟨.ok, (m.readLanes o n.bytes s.draws).1⟩
        draws := (m.readLanes o n.bytes s.draws).2 }
    let answered : State := { s with reply := some ⟨.ok, 0#32⟩ }
    (∀ (b : Buf) (base : Nat), base = (if b = .fb0 then 0x01000000 else 0x02000000) →
      base ≤ a.toNat → a.toNat < base + 0x01000000 →
      a.toNat - base + n.bytes ≤ s.params.maxW * s.params.maxH * 2 →
      (s.pool.owner = .worker ∧ b = s.pool.front.other → hostRead a n s = refused) ∧
      (¬(s.pool.owner = .worker ∧ b = s.pool.front.other) →
        hostRead a n s = reads (s.fb b) (a.toNat - base)) ∧
      (¬(s.pool.owner = .host ∧ b = s.pool.front.other) → hostWrite a n v s = .next refused) ∧
      (s.pool.owner = .host ∧ b = s.pool.front.other →
        hostWrite a n v s = .next
          { answered with
            fb0 := if b = .fb0 then s.fb0.writeLanes (a.toNat - base) n.bytes v else s.fb0
            fb1 := if b = .fb1 then s.fb1.writeLanes (a.toNat - base) n.bytes v else s.fb1 })) ∧
    (0x04000000 ≤ a.toNat → a.toNat < 0x08000000 →
      a.toNat - 0x04000000 + n.bytes ≤ s.params.srcBytes →
      (s.sess.active = true → hostRead a n s = refused ∧ hostWrite a n v s = .next refused) ∧
      (s.sess.active = false →
        hostRead a n s = reads s.srcMem (a.toNat - 0x04000000) ∧
        hostWrite a n v s = .next
          { answered with srcMem := s.srcMem.writeLanes (a.toNat - 0x04000000) n.bytes v }))

/-- R101 with R506: an address of no region, and an offset any of whose bytes lies at or beyond the
backing memory's size, is refused for reads and writes. -/
def Obligations.UnmappedAddressesAreRefused : Prop :=
  ∀ (s : State) (a v : Word) (n : Size),
    (a.toNat < 0x1000 ∧ 0x1000 < a.toNat + n.bytes) ∨
    (0x1000 ≤ a.toNat ∧ a.toNat < 0x01000000) ∨
    (0x01000000 ≤ a.toNat ∧ a.toNat < 0x02000000 ∧
      s.params.maxW * s.params.maxH * 2 < a.toNat - 0x01000000 + n.bytes) ∨
    (0x02000000 ≤ a.toNat ∧ a.toNat < 0x03000000 ∧
      s.params.maxW * s.params.maxH * 2 < a.toNat - 0x02000000 + n.bytes) ∨
    (0x03000000 ≤ a.toNat ∧ a.toNat < 0x04000000) ∨
    (0x04000000 ≤ a.toNat ∧ a.toNat < 0x08000000 ∧
      s.params.srcBytes < a.toNat - 0x04000000 + n.bytes) ∨
    0x08000000 ≤ a.toNat →
    let refused : State :=
      { s with
        reply := some ⟨.err, 0#32⟩
        rep.busErrAddr := a
        rep.irqPend := s.rep.irqPend ||| 0b10000#5 }
    hostRead a n s = refused ∧ hostWrite a n v s = .next refused

/-- R103: a write stores its n bytes little-endian, leaves every other byte of the memory, and a read of
the same n bytes then returns them, with the bits above 8n read 0 and no draw. -/
def Obligations.ByteLanesAreLittleEndian : Prop :=
  ∀ (m : Memory) (o : Nat) (n : Size) (v : Word) (d : Nat),
    (∀ k, k < n.bytes → (m.writeLanes o n.bytes v).read (o + k) = some (v.extractLsb' (8 * k) 8)) ∧
    (∀ a, a < o ∨ o + n.bytes ≤ a → (m.writeLanes o n.bytes v).read a = m.read a) ∧
    (m.writeLanes o n.bytes v).readLanes o n.bytes d =
      (BitVec.ofNat 32 (v.toNat % 2 ^ (8 * n.bytes)), d)

/-- R114: a read that is not refused changes no state: only the port's answer is new, and the count of
draws (the model's own, assumption log 3) moves if a byte was unwritten. The other two clauses are the
model's choice. R159 says that POLL repeats the read until `(data & m) = v`; that each read is one turn
of the host, and that the program stays at the POLL meanwhile, is assumption log 10. That no event but
a turn of the host moves the program holds of the reset event because reset keeps it, assumption
log 5. -/
def Obligations.ReadsHaveNoSideEffects : Prop :=
  (∀ (s : State) (a : Word) (n : Size) (data : Word), (hostRead a n s).reply = some ⟨.ok, data⟩ →
    { hostRead a n s with reply := s.reply, draws := s.draws } = s ∧
    s.draws ≤ (hostRead a n s).draws ∧ (hostRead a n s).draws ≤ s.draws + n.bytes) ∧
  (∀ (s : State) (a m v data : Word) (resp : Response) (rest : List HostStmt),
    s.program = .poll a m v :: rest → (hostRead a .b4 s).reply = some ⟨resp, data⟩ →
    runEvent .program s = .next
      { hostRead a .b4 s with program := if data &&& m = v then rest else s.program }) ∧
  (∀ (e : Event) (s t : State), e ≠ .program → runEvent e s = .next t → t.program = s.program)

/-- R510 and R511: `irq` is the OR of the enabled pending bits; `irq_set` sets its one bit and has no other
effect, whatever IRQ_EN holds; a write to IRQ_PEND clears exactly the bits written 1 and nothing else. -/
def Obligations.InterruptLevelAndAcknowledge : Prop :=
  ∀ (s : State) (v : Word),
    (s.irq = true ↔ ∃ b, b < 5 ∧ s.rep.irqPend.getLsbD b = true ∧ s.rep.irqEn.getLsbD b = true) ∧
    (∀ e : Irq,
      let n := match e with
        | .frameDone => 0
        | .sessionEnd => 1
        | .modeChange => 2
        | .cmdDone => 3
        | .busErr => 4
      (irqSet e s).rep.irqPend.getLsbD n = true ∧
      (∀ b, b ≠ n → (irqSet e s).rep.irqPend.getLsbD b = s.rep.irqPend.getLsbD b) ∧
      irqSet e s = { s with rep.irqPend := (irqSet e s).rep.irqPend }) ∧
    ∃ t, hostWrite 0x00000018#32 .b4 v s = .next t ∧
      (∀ b, b < 5 → t.rep.irqPend.getLsbD b = (s.rep.irqPend.getLsbD b && !v.getLsbD b)) ∧
      t = { s with reply := some ⟨.ok, 0#32⟩, rep.irqPend := t.rep.irqPend }

/-- R48 and R49, with R32's order of the checks: a locked write of WIDTH or HEIGHT is a bus error, an
unlocked legal one stores bits [15:0], an unlocked illegal one changes nothing; each register reads
its 16 bits, and the largest size after reset. -/
def Obligations.GeometryWritesAreLockedThenLegal : Prop :=
  (∀ p : Params, p.legal → readReg 0x020 (State.resetWith p) = BitVec.ofNat 32 p.maxW ∧
    readReg 0x024 (State.resetWith p) = BitVec.ofNat 32 p.maxH) ∧
  ∀ (s : State) (v : Word),
    let locked := s.sess.active = true ∨ s.pool.owner ≠ .none ∨ s.spi.busy = true
    let x := v.toNat % 65536
    let legal (limit : Nat) := x % 2 = 0 ∧ 2 ≤ x ∧ x ≤ limit
    let refused (a : Word) : Host.Outcome State Fault Refusal := .next
      { s with
        reply := some ⟨.err, 0#32⟩
        rep.busErrAddr := a
        rep.irqPend := s.rep.irqPend ||| 0b10000#5 }
    readReg 0x020 s = 0#16 ++ s.geom.width ∧ readReg 0x024 s = 0#16 ++ s.geom.height ∧
    (locked → hostWrite 0x00000020#32 .b4 v s = refused 0x00000020#32 ∧
      hostWrite 0x00000024#32 .b4 v s = refused 0x00000024#32) ∧
    (¬locked → legal s.params.maxW →
      hostWrite 0x00000020#32 .b4 v s = .next
        { s with reply := some ⟨.ok, 0#32⟩, geom.width := BitVec.ofNat 16 x }) ∧
    (¬locked → legal s.params.maxH →
      hostWrite 0x00000024#32 .b4 v s = .next
        { s with reply := some ⟨.ok, 0#32⟩, geom.height := BitVec.ofNat 16 x }) ∧
    (¬locked → ¬legal s.params.maxW →
      hostWrite 0x00000020#32 .b4 v s = .next { s with reply := some ⟨.ok, 0#32⟩ }) ∧
    (¬locked → ¬legal s.params.maxH →
      hostWrite 0x00000024#32 .b4 v s = .next { s with reply := some ⟨.ok, 0#32⟩ })

/-- What the registers that the host configures read, in every state (R41, R47, R50, R51, R56 to R59 and
R61; WIDTH and HEIGHT are above), and, for R47, R50, R51, R58, R59 and R61, a write of each: FRAME_PERIOD, DWELL_MAX and IRQ_EN store their bits;
FILE_LEN is locked during a session and stores at most SRC_BYTES; HOLD_MIN stores a nonzero value;
SPI_CTRL is locked during a present and stores its three fields unless SPI_DIV would be 0. A locked
write is a bus error, an illegal one changes nothing. -/
def Obligations.ConfigurationWritesAreLockedThenLegal : Prop :=
  ∀ (s : State) (v : Word),
    let ok : State := { s with reply := some ⟨.ok, 0#32⟩ }
    let refused (a : Word) : Host.Outcome State Fault Refusal := .next
      { s with
        reply := some ⟨.err, 0#32⟩
        rep.busErrAddr := a
        rep.irqPend := s.rep.irqPend ||| 0b10000#5 }
    let reads (a w : Word) : Prop := hostRead a .b4 s = { s with reply := some ⟨.ok, w⟩ }
    (reads 0x00000004#32 (0#30 ++ BitVec.ofBool s.geom.uvSwap ++ BitVec.ofBool s.fsm.en) ∧
      reads 0x0000001C#32 (0#27 ++ s.rep.irqEn) ∧ reads 0x00000028#32 (0#1 ++ s.sess.framePeriod) ∧
      reads 0x0000002C#32 s.source.fileLen ∧ reads 0x00000040#32 (0#16 ++ s.deb.interval) ∧
      reads 0x00000044#32 (0#24 ++ s.deb.count) ∧ reads 0x00000048#32 (0#24 ++ s.fsm.holdMin) ∧
      reads 0x0000004C#32 s.fsm.dwellMax ∧
      reads 0x00000054#32
        (0#8 ++ s.spi.cmdByte ++ 0#7 ++ BitVec.ofBool s.spi.cmdEn ++ s.spi.div)) ∧
    hostWrite 0x0000001C#32 .b4 v s = .next { ok with rep.irqEn := v.extractLsb' 0 5 } ∧
    hostWrite 0x00000028#32 .b4 v s = .next { ok with sess.framePeriod := v.extractLsb' 0 31 } ∧
    hostWrite 0x0000004C#32 .b4 v s = .next { ok with fsm.dwellMax := v } ∧
    (s.sess.active = true → hostWrite 0x0000002C#32 .b4 v s = refused 0x0000002C#32) ∧
    (s.sess.active = false → v.toNat ≤ s.params.srcBytes →
      hostWrite 0x0000002C#32 .b4 v s = .next { ok with source.fileLen := v }) ∧
    (s.sess.active = false → s.params.srcBytes < v.toNat →
      hostWrite 0x0000002C#32 .b4 v s = .next ok) ∧
    (v.extractLsb' 0 8 ≠ 0#8 →
      hostWrite 0x00000048#32 .b4 v s = .next { ok with fsm.holdMin := v.extractLsb' 0 8 }) ∧
    (v.extractLsb' 0 8 = 0#8 → hostWrite 0x00000048#32 .b4 v s = .next ok) ∧
    (s.spi.busy = true → hostWrite 0x00000054#32 .b4 v s = refused 0x00000054#32) ∧
    (s.spi.busy = false → v.extractLsb' 0 8 ≠ 0#8 →
      hostWrite 0x00000054#32 .b4 v s = .next
        { ok with
          spi.div := v.extractLsb' 0 8
          spi.cmdEn := v.getLsbD 8
          spi.cmdByte := v.extractLsb' 16 8 }) ∧
    (s.spi.busy = false → v.extractLsb' 0 8 = 0#8 → hostWrite 0x00000054#32 .b4 v s = .next ok)

/-- R42: a read of STATUS shows each field in its place, SWITCH_TARGET while a switch is pending; it is
0x00020000 after reset. With it, what every other register reads that the host cannot configure, in
every state: ID, CMD, CMD_RESULT with the codes of R501, ERR with the causes of R502, IRQ_PEND,
FILE_POS, FRAME_COUNT, START_TS, CYCLE, DWELL, PIX_RGB, PIX_565, BUTTON (its bit 3 apart, assumption
log 9), BUSERR_ADDR, STREAM_CNT and the reserved offsets; and a write to a read-only or reserved one
is ignored (R32, R67). -/
def Obligations.StatusShowsEveryField : Prop :=
  (∀ p : Params, readReg 0x008 (State.resetWith p) = 0x00020000#32) ∧
  ∀ (s : State) (v : Word),
    let reads (a w : Word) : Prop := hostRead a .b4 s = { s with reply := some ⟨.ok, w⟩ }
    (∀ a : Word, a.toNat < 0x1000 → a.toNat % 4 = 0 →
      a.toNat ∉ [0x004, 0x00C, 0x018, 0x01C, 0x020, 0x024, 0x028, 0x02C, 0x040, 0x044, 0x048, 0x04C,
        0x054] →
      hostWrite a .b4 v s = .next { s with reply := some ⟨.ok, 0#32⟩ }) ∧
    (∀ a : Word, 0x06C ≤ a.toNat → a.toNat < 0x1000 → a.toNat % 4 = 0 → reads a 0#32) ∧
    (reads 0x00000000#32 0xD0170001#32 ∧ reads 0x0000000C#32 0#32 ∧
      reads 0x00000010#32 (0#8 ++ s.cmd.opcode ++ s.cmd.data ++
        (match s.cmd.code with
          | .ok => 0x00#8
          | .alreadyActive => 0x01#8
          | .notActive => 0x02#8
          | .ownerConflict => 0x03#8
          | .illegal => 0x04#8
          | .modeOwned => 0x05#8
          | .pending => 0xFF#8)) ∧
      reads 0x00000014#32 (0#22 ++ BitVec.ofBool (decide (s.err.kind = .stream)) ++
        BitVec.ofBool s.err.atStart ++
        (match s.err.cause with
          | .none => 0x00#8
          | .eos => 0x01#8
          | .shortRead => 0x02#8
          | .closed => 0x03#8
          | .allocFail => 0x04#8)) ∧
      reads 0x00000018#32 (0#27 ++ s.rep.irqPend) ∧ reads 0x00000030#32 s.source.filePos ∧
      reads 0x00000034#32 s.sess.frameCount ∧ reads 0x00000038#32 s.sess.startTs ∧
      reads 0x0000003C#32 s.cycle ∧ reads 0x00000050#32 s.fsm.dwell ∧
      reads 0x00000058#32 (0#8 ++ s.pix.b ++ s.pix.g ++ s.pix.r) ∧
      reads 0x0000005C#32 (0#16 ++ s.pix.packed) ∧ reads 0x00000064#32 s.rep.busErrAddr ∧
      reads 0x00000068#32 s.source.acc) ∧
    (∃ w, reads 0x00000060#32 w ∧
      w.getLsbD 0 = s.deb.pin ∧
      w.extractLsb' 1 2 = (match s.deb.lastResult with
        | .low => 0#2
        | .high => 1#2
        | .unstable => 2#2
        | .none => 3#2) ∧
      w.extractLsb' 4 2 = (match s.fsm.lastEvent with
        | .idle => 0#2
        | .pressed => 1#2
        | .held => 2#2
        | .released => 3#2) ∧
      w.extractLsb' 6 2 = 0#2 ∧
      w.extractLsb' 8 8 = s.fsm.holdCnt ∧
      w.extractLsb' 16 8 = s.deb.k ∧
      w.extractLsb' 24 8 = 0#8) ∧
    ∃ w, reads 0x00000008#32 w ∧
      w.getLsbD 0 = s.sess.active ∧
      w.getLsbD 1 = decide (s.sess.kind = .stream) ∧
      w.getLsbD 2 = s.sess.cancel ∧
      w.getLsbD 3 = decide (s.cmd.pending ≠ .none) ∧
      w.extractLsb' 4 2 = (match s.pool.owner with
        | .none => 0#2
        | .worker => 1#2
        | .host => 2#2) ∧
      w.getLsbD 6 = decide (s.pool.front = .fb1) ∧
      w.getLsbD 7 = decide (s.fsm.mode = .camera) ∧
      w.getLsbD 8 = s.spi.busy ∧
      w.getLsbD 9 = s.fsm.switchPending ∧
      (s.fsm.switchPending = true → w.getLsbD 10 = decide (s.fsm.switchTarget = .camera)) ∧
      w.extractLsb' 11 3 = (match s.sess.phase with
        | .idle => 0#3
        | .top => 1#3
        | .fetch => 2#3
        | .convert => 3#3
        | .present => 4#3
        | .pace => 5#3) ∧
      w.extractLsb' 14 2 = (match s.fsm.gesture with
        | .idle => 0#2
        | .pressed => 1#2
        | .held => 2#2) ∧
      w.extractLsb' 16 2 = (match s.deb.lastStable with
        | .low => 0#2
        | .high => 1#2
        | .none => 2#2) ∧
      w.extractLsb' 18 2 = (match s.source.streamEnd with
        | .none => 0#2
        | .closed => 1#2
        | .error => 2#2) ∧
      w.extractLsb' 20 12 = 0#12

/-! ### Reset -/

/-- R75 with R33's reset column, R70's and R73: the registers, the hidden items, the outputs and the memories
after reset, for every legal choice of the parameters. -/
def Obligations.ResetValuesOfTheRegisterMap : Prop :=
  ∀ p : Params, p.legal →
    let s := State.resetWith p
    (∀ r : Reg, readReg r.offset s =
      match r with
      | .id => 0xD0170001#32
      | .status => 0x00020000#32
      | .width => BitVec.ofNat 32 p.maxW
      | .height => BitVec.ofNat 32 p.maxH
      | .debInterval => BitVec.ofNat 32 p.debIntervalRst
      | .debCount => 0x0000000A#32
      | .holdMin => 0x00000001#32
      | .spiCtrl => 0x00000001#32
      | .button => 0x00000006#32
      | _ => 0x00000000#32) ∧
    (s.cmd.pending = .none ∧ s.sess.t0 = 0#32 ∧ s.source.frameBase = 0#32 ∧
      s.sess.firstFrameDone = false ∧ s.deb.tmr = 0#16 ∧ s.deb.first = false ∧ s.deb.agree = true ∧
      s.deb.sync1 = false ∧ s.deb.sync2 = false ∧ s.spi.src = .worker ∧ s.spi.buf = .fb0 ∧
      s.spi.len = 0#32 ∧ s.spi.idx = 0#32 ∧ s.spi.cmdPhase = false ∧ s.spi.cmdV = 0#8) ∧
    s.irq = false ∧ s.sReady = false ∧ s.spi.csN = true ∧ s.spi.sclk = false ∧
    s.spi.mosi = false ∧ s.spi.dc = true ∧
    (∀ (b : Buf) (a : Nat), (s.fb b).read a = none) ∧ (∀ a : Nat, s.srcMem.read a = none)

/-- R550 and R551: the reset step has the same effect on the block from every state: every register and
hidden item takes its reset value and every memory byte is unwritten. Only what stands outside the
block is kept: the instance's parameters, the producer's bytes, the events and the host program to
come, the counts of draws, and the transactions the panel has seen, the one cut short among them: that
these are kept, and how, is the model's choice (assumption log 5). -/
def Obligations.ResetFromEveryState : Prop :=
  ∀ s : State, ∃ t, runEvent .reset s = .next t ∧
    { t with
      source.offered := []
      spi.sent := []
      draws := 0
      drawnEvents := 0
      schedule := []
      program := [] } = State.resetWith s.params ∧
    t.source.offered = s.source.offered ∧ t.draws = s.draws ∧ t.drawnEvents = s.drawnEvents ∧
    t.schedule = s.schedule ∧ t.program = s.program ∧
    t.spi.sent = (if s.spi.busy then
      s.spi.sent ++ [⟨s.spi.current.cmd, s.spi.current.payload, true⟩] else s.spi.sent)

/-! ### Invariants over every step -/

/-- R74: every step keeps the arbiter's invariants. -/
def Obligations.StepKeepsTheArbiterInvariants : Prop :=
  ∀ s t : State, ArbiterInv s → step s = .next t → ArbiterInv t

/-- R212, R281, R284, R371: every step keeps the bounds on which the agents' accesses rest. -/
def Obligations.StepKeepsTheBounds : Prop :=
  ∀ s t : State, ArbiterInv s → BoundsInv s → step s = .next t → BoundsInv t

/-- R44, R156, R322, R243: every step keeps the command port's invariants. -/
def Obligations.StepKeepsTheCommandPort : Prop :=
  ∀ s t : State, ArbiterInv s → CommandInv s → step s = .next t → CommandInv t

/-- R430, R433, R440, R443, R502: every step keeps the mode-select invariants; while the FSM runs and no
switch is pending, a session is a Camera session, and no reserved cause is ever recorded. -/
def Obligations.StepKeepsTheModeInvariants : Prop :=
  ∀ s t : State, ModeInv s → step s = .next t → ModeInv t

/-- R32, R56, R57, R58, R61, R370, R373: every step keeps the WARL registers legal, the window inside
them, and the SPI pins at their levels. -/
def Obligations.StepKeepsRegistersAndPins : Prop :=
  ∀ s t : State, s.params.legal → RegisterInv s → PinInv s → step s = .next t →
    RegisterInv t ∧ PinInv t

/-- Every step keeps the memories in canonical form, so that equal memories are equal data; the form is
the model's own (assumption log 3). -/
def Obligations.StepKeepsMemoriesCanonical : Prop :=
  ∀ s t : State, MemoryInv s → step s = .next t → MemoryInv t

/-- All the invariants hold right after reset. -/
def Obligations.ResetMeetsTheInvariants : Prop :=
  ArbiterInv State.reset ∧ BoundsInv State.reset ∧ CommandInv State.reset ∧ ModeInv State.reset ∧
    RegisterInv State.reset ∧ PinInv State.reset ∧ MemoryInv State.reset

/-- R505: no error of the block stops the block or requires a reset: from a state that meets the
arbiter's invariants and the bounds, every step answers a next state: the model's two faults (assumption
log 6) are not reached there. -/
def Obligations.NoErrorStopsTheBlock : Prop :=
  ∀ s : State, ArbiterInv s → BoundsInv s → Continues (step s)

/-- R372's last point and R241 (c): while a present runs, no event but a reset changes a byte of the
buffer being presented. -/
def Obligations.PresentedBufferIsNotWritten : Prop :=
  ∀ (e : Event) (s t : State), ArbiterInv s → s.spi.busy = true → e ≠ .reset →
    runEvent e s = .next t → ∀ a, (t.fb s.spi.buf).read a = (s.fb s.spi.buf).read a
end

