-- ==== Sys2Proof/Laws/Config.lean ====
section
/-! SUPPORT. The parameters of the instance are legal, whatever the open values are. -/

namespace Sys2Proof.Config

theorem halfMaxW_range : 1 ≤ halfMaxW ∧ halfMaxW ≤ 32767 := by
  unfold halfMaxW; omega

theorem halfMaxH_range : 1 ≤ halfMaxH ∧ halfMaxH ≤ min 32767 (2 ^ 21 / halfMaxW) := by
  have hw := halfMaxW_range
  have h64 : 64 ≤ 2 ^ 21 / halfMaxW := (Nat.le_div_iff_mul_le hw.1).2 (by omega)
  have hlt := Nat.mod_lt openMaxH (show 0 < min 32767 (2 ^ 21 / halfMaxW) by omega)
  unfold halfMaxH; omega

theorem half_product : halfMaxW * halfMaxH ≤ 2 ^ 21 := by
  have h := halfMaxH_range.2
  calc halfMaxW * halfMaxH ≤ halfMaxW * (2 ^ 21 / halfMaxW) :=
        Nat.mul_le_mul_left _ (le_trans h (min_le_right _ _))
    _ ≤ 2 ^ 21 := Nat.mul_div_le _ _

theorem maxFrame_le : maxFrame ≤ 2 ^ 26 := by
  have h := half_product
  have e : 2 * halfMaxW * (2 * halfMaxH) = 4 * (halfMaxW * halfMaxH) := by ring
  unfold maxFrame; rw [e]; omega

/-- R9's constraints hold of the instance. -/
theorem params_legal : params.legal := by
  have hw := halfMaxW_range
  have hh := halfMaxH_range
  have hp := half_product
  have e : 2 * halfMaxW * (2 * halfMaxH) = 4 * (halfMaxW * halfMaxH) := by ring
  have hs := Nat.mod_lt openSrcBytes (show 0 < 2 ^ 26 - maxFrame + 1 by omega)
  have hf := maxFrame_le
  have hm : 2 * halfMaxW * (2 * halfMaxH) * 3 / 2 = maxFrame := rfl
  refine ⟨?_, ?_, ?_, ?_, ?_, ?_, ?_, ?_, ?_, ?_, ?_, ?_⟩ <;>
    simp only [params, Params.fbBytes] <;> omega

end Sys2Proof.Config
end

