-- ==== Sys2Proof/Laws/Memory.lean ====
section
/-! SUPPORT. The memory operations: a read after a write, and that each keeps the canonical form. -/

namespace Sys2Proof.Machine

namespace Memory

@[simp] theorem read_nil (a : Nat) : Memory.read [] a = none := rfl

/-- A byte reads as it was written. -/
@[simp] theorem read_write_same (m : Memory) (a : Nat) (x : Byte) : (m.write a x).read a = some x := by
  induction m with
  | nil => simp [Memory.write, Memory.read]
  | cons c m ih =>
    obtain ⟨b, v⟩ := c
    unfold Memory.write
    split
    · simp [Memory.read]
    · split
      · simp [Memory.read]
      · next h => simp [Memory.read, h, ih]

/-- A write leaves every other byte as it was. -/
theorem read_write_other (m : Memory) {a b : Nat} (x : Byte) (h : b ≠ a) :
    (m.write a x).read b = m.read b := by
  induction m with
  | nil => simp [Memory.write, Memory.read, h]
  | cons c m ih =>
    obtain ⟨d, v⟩ := c
    unfold Memory.write
    split
    · simp [Memory.read, h]
    · split
      · next h' => subst h'; simp [Memory.read, h]
      · simp [Memory.read, ih]

theorem read_write (m : Memory) (a b : Nat) (x : Byte) :
    (m.write a x).read b = if b = a then some x else m.read b := by
  split
  · next h => subst h; simp
  · next h => exact read_write_other m x h

/-- The addresses of a written memory are those of before, and the written one. -/
theorem mem_write {m : Memory} {a : Nat} {x : Byte} {c : Host.Cell} (h : c ∈ m.write a x) :
    c = (a, x) ∨ c ∈ m := by
  induction m with
  | nil => simpa [Memory.write] using h
  | cons d m ih =>
    obtain ⟨b, v⟩ := d
    unfold Memory.write at h
    split at h
    · simpa using h
    · split at h
      · rcases List.mem_cons.1 h with h | h
        · exact .inl h
        · exact .inr (List.mem_cons_of_mem _ h)
      · rcases List.mem_cons.1 h with h | h
        · exact .inr (by simp [h])
        · exact (ih h).imp id (List.mem_cons_of_mem _)

/-- A write keeps the canonical form. -/
theorem write_wf {m : Memory} (a : Nat) (x : Byte) (h : m.wf) : (m.write a x).wf := by
  induction m with
  | nil => simp [Memory.write, Memory.wf]
  | cons d m ih =>
    obtain ⟨b, v⟩ := d
    have hb := (List.pairwise_cons.1 h).1
    have hm := (List.pairwise_cons.1 h).2
    unfold Memory.write
    split
    · next hab =>
      refine List.pairwise_cons.2 ⟨?_, h⟩
      intro c hc
      rcases List.mem_cons.1 hc with rfl | hc
      · exact hab
      · exact lt_trans hab (hb c hc)
    · split
      · next hab =>
        subst hab
        exact List.pairwise_cons.2 ⟨hb, hm⟩
      · next h1 h2 =>
        refine List.pairwise_cons.2 ⟨?_, ih hm⟩
        intro c hc
        rcases mem_write hc with rfl | hc
        · show b < a
          omega
        · exact hb c hc

/-- A run of byte lanes keeps the canonical form. -/
theorem writeLanes_wf {m : Memory} (o n : Nat) (v : Word) (h : m.wf) : (m.writeLanes o n v).wf := by
  induction n generalizing m o v with
  | zero => exact h
  | succ n ih => exact ih _ _ (write_wf _ _ h)

/-- A written byte is read as it stands, with no draw. -/
theorem readOrDraw_of_read {m : Memory} {a : Nat} {x : Byte} (d : Nat) (h : m.read a = some x) :
    m.readOrDraw a d = (x, d) := by
  simp [Memory.readOrDraw, h]

/-- An unwritten byte is the next fresh draw (R20). -/
theorem readOrDraw_of_unwritten {m : Memory} {a : Nat} (d : Nat) (h : m.read a = none) :
    m.readOrDraw a d = (Config.freeByte d, d + 1) := by
  simp [Memory.readOrDraw, h]

end Memory

/-- The frame pass keeps the painted buffer's canonical form, pixel by pixel. -/
theorem paintPixel_wf {src : Memory} {pl : Planes} {w : Nat} {a : Paint} (rc : Nat × Nat)
    (h : a.fb.wf) : (paintPixel src pl w a rc).fb.wf :=
  Memory.write_wf _ _ (Memory.write_wf _ _ h)

theorem paint_foldl_wf {src : Memory} {pl : Planes} {w : Nat} (l : List (Nat × Nat)) {a : Paint}
    (h : a.fb.wf) : (l.foldl (paintPixel src pl w) a).fb.wf := by
  induction l generalizing a with
  | nil => exact h
  | cons rc l ih => exact ih (paintPixel_wf rc h)

/-- What the frame pass changes: the painted buffer and the count of draws. -/
theorem framePass_eq (base : Nat) (k : Buf) (s : State) :
    ∃ fb d, framePass base k s = { s.setFb k fb with draws := d } ∧ ((s.fb k).wf → fb.wf) :=
  ⟨_, _, rfl, fun h => paint_foldl_wf _ h⟩

end Sys2Proof.Machine
end

