-- ==== Sys2Proof/Laws/State.lean ====
section
/-! SUPPORT. What each named update does to each field of the state: one lemma per field, true by rfl. -/

namespace Sys2Proof.Machine

variable (s : State)

/-! ### irqSet -/

@[simp] theorem irqSet_geom (e : Irq) : (irqSet e s).geom = s.geom := rfl
@[simp] theorem irqSet_pix (e : Irq) : (irqSet e s).pix = s.pix := rfl
@[simp] theorem irqSet_pool (e : Irq) : (irqSet e s).pool = s.pool := rfl
@[simp] theorem irqSet_source (e : Irq) : (irqSet e s).source = s.source := rfl
@[simp] theorem irqSet_sess (e : Irq) : (irqSet e s).sess = s.sess := rfl
@[simp] theorem irqSet_spi (e : Irq) : (irqSet e s).spi = s.spi := rfl
@[simp] theorem irqSet_deb (e : Irq) : (irqSet e s).deb = s.deb := rfl
@[simp] theorem irqSet_fsm (e : Irq) : (irqSet e s).fsm = s.fsm := rfl
@[simp] theorem irqSet_cmd (e : Irq) : (irqSet e s).cmd = s.cmd := rfl
@[simp] theorem irqSet_err (e : Irq) : (irqSet e s).err = s.err := rfl
@[simp] theorem irqSet_rep (e : Irq) :
    (irqSet e s).rep = { s.rep with irqPend := s.rep.irqPend ||| e.mask } := rfl
@[simp] theorem irqSet_cycle (e : Irq) : (irqSet e s).cycle = s.cycle := rfl
@[simp] theorem irqSet_fb0 (e : Irq) : (irqSet e s).fb0 = s.fb0 := rfl
@[simp] theorem irqSet_fb1 (e : Irq) : (irqSet e s).fb1 = s.fb1 := rfl
@[simp] theorem irqSet_srcMem (e : Irq) : (irqSet e s).srcMem = s.srcMem := rfl
@[simp] theorem irqSet_params (e : Irq) : (irqSet e s).params = s.params := rfl
@[simp] theorem irqSet_reply (e : Irq) : (irqSet e s).reply = s.reply := rfl
@[simp] theorem irqSet_draws (e : Irq) : (irqSet e s).draws = s.draws := rfl
@[simp] theorem irqSet_drawnEvents (e : Irq) : (irqSet e s).drawnEvents = s.drawnEvents := rfl
@[simp] theorem irqSet_schedule (e : Irq) : (irqSet e s).schedule = s.schedule := rfl
@[simp] theorem irqSet_program (e : Irq) : (irqSet e s).program = s.program := rfl

/-! ### irqClear -/

@[simp] theorem irqClear_geom (v : Word) : (irqClear v s).geom = s.geom := rfl
@[simp] theorem irqClear_pix (v : Word) : (irqClear v s).pix = s.pix := rfl
@[simp] theorem irqClear_pool (v : Word) : (irqClear v s).pool = s.pool := rfl
@[simp] theorem irqClear_source (v : Word) : (irqClear v s).source = s.source := rfl
@[simp] theorem irqClear_sess (v : Word) : (irqClear v s).sess = s.sess := rfl
@[simp] theorem irqClear_spi (v : Word) : (irqClear v s).spi = s.spi := rfl
@[simp] theorem irqClear_deb (v : Word) : (irqClear v s).deb = s.deb := rfl
@[simp] theorem irqClear_fsm (v : Word) : (irqClear v s).fsm = s.fsm := rfl
@[simp] theorem irqClear_cmd (v : Word) : (irqClear v s).cmd = s.cmd := rfl
@[simp] theorem irqClear_err (v : Word) : (irqClear v s).err = s.err := rfl
@[simp] theorem irqClear_rep (v : Word) :
    (irqClear v s).rep = { s.rep with irqPend := s.rep.irqPend &&& ~~~(v.extractLsb' 0 5) } := rfl
@[simp] theorem irqClear_cycle (v : Word) : (irqClear v s).cycle = s.cycle := rfl
@[simp] theorem irqClear_fb0 (v : Word) : (irqClear v s).fb0 = s.fb0 := rfl
@[simp] theorem irqClear_fb1 (v : Word) : (irqClear v s).fb1 = s.fb1 := rfl
@[simp] theorem irqClear_srcMem (v : Word) : (irqClear v s).srcMem = s.srcMem := rfl
@[simp] theorem irqClear_params (v : Word) : (irqClear v s).params = s.params := rfl
@[simp] theorem irqClear_reply (v : Word) : (irqClear v s).reply = s.reply := rfl
@[simp] theorem irqClear_draws (v : Word) : (irqClear v s).draws = s.draws := rfl
@[simp] theorem irqClear_drawnEvents (v : Word) : (irqClear v s).drawnEvents = s.drawnEvents := rfl
@[simp] theorem irqClear_schedule (v : Word) : (irqClear v s).schedule = s.schedule := rfl
@[simp] theorem irqClear_program (v : Word) : (irqClear v s).program = s.program := rfl

/-! ### replyOk -/

@[simp] theorem replyOk_geom (d : Word) : (replyOk d s).geom = s.geom := rfl
@[simp] theorem replyOk_pix (d : Word) : (replyOk d s).pix = s.pix := rfl
@[simp] theorem replyOk_pool (d : Word) : (replyOk d s).pool = s.pool := rfl
@[simp] theorem replyOk_source (d : Word) : (replyOk d s).source = s.source := rfl
@[simp] theorem replyOk_sess (d : Word) : (replyOk d s).sess = s.sess := rfl
@[simp] theorem replyOk_spi (d : Word) : (replyOk d s).spi = s.spi := rfl
@[simp] theorem replyOk_deb (d : Word) : (replyOk d s).deb = s.deb := rfl
@[simp] theorem replyOk_fsm (d : Word) : (replyOk d s).fsm = s.fsm := rfl
@[simp] theorem replyOk_cmd (d : Word) : (replyOk d s).cmd = s.cmd := rfl
@[simp] theorem replyOk_err (d : Word) : (replyOk d s).err = s.err := rfl
@[simp] theorem replyOk_rep (d : Word) : (replyOk d s).rep = s.rep := rfl
@[simp] theorem replyOk_cycle (d : Word) : (replyOk d s).cycle = s.cycle := rfl
@[simp] theorem replyOk_fb0 (d : Word) : (replyOk d s).fb0 = s.fb0 := rfl
@[simp] theorem replyOk_fb1 (d : Word) : (replyOk d s).fb1 = s.fb1 := rfl
@[simp] theorem replyOk_srcMem (d : Word) : (replyOk d s).srcMem = s.srcMem := rfl
@[simp] theorem replyOk_params (d : Word) : (replyOk d s).params = s.params := rfl
@[simp] theorem replyOk_reply (d : Word) : (replyOk d s).reply = some ⟨.ok, d⟩ := rfl
@[simp] theorem replyOk_draws (d : Word) : (replyOk d s).draws = s.draws := rfl
@[simp] theorem replyOk_drawnEvents (d : Word) : (replyOk d s).drawnEvents = s.drawnEvents := rfl
@[simp] theorem replyOk_schedule (d : Word) : (replyOk d s).schedule = s.schedule := rfl
@[simp] theorem replyOk_program (d : Word) : (replyOk d s).program = s.program := rfl

/-! ### busError -/

@[simp] theorem busError_geom (a : Word) : (busError a s).geom = s.geom := rfl
@[simp] theorem busError_pix (a : Word) : (busError a s).pix = s.pix := rfl
@[simp] theorem busError_pool (a : Word) : (busError a s).pool = s.pool := rfl
@[simp] theorem busError_source (a : Word) : (busError a s).source = s.source := rfl
@[simp] theorem busError_sess (a : Word) : (busError a s).sess = s.sess := rfl
@[simp] theorem busError_spi (a : Word) : (busError a s).spi = s.spi := rfl
@[simp] theorem busError_deb (a : Word) : (busError a s).deb = s.deb := rfl
@[simp] theorem busError_fsm (a : Word) : (busError a s).fsm = s.fsm := rfl
@[simp] theorem busError_cmd (a : Word) : (busError a s).cmd = s.cmd := rfl
@[simp] theorem busError_err (a : Word) : (busError a s).err = s.err := rfl
@[simp] theorem busError_rep (a : Word) :
    (busError a s).rep = ⟨s.rep.irqPend ||| Irq.busErr.mask, s.rep.irqEn, a⟩ := rfl
@[simp] theorem busError_cycle (a : Word) : (busError a s).cycle = s.cycle := rfl
@[simp] theorem busError_fb0 (a : Word) : (busError a s).fb0 = s.fb0 := rfl
@[simp] theorem busError_fb1 (a : Word) : (busError a s).fb1 = s.fb1 := rfl
@[simp] theorem busError_srcMem (a : Word) : (busError a s).srcMem = s.srcMem := rfl
@[simp] theorem busError_params (a : Word) : (busError a s).params = s.params := rfl
@[simp] theorem busError_reply (a : Word) : (busError a s).reply = some ⟨.err, 0⟩ := rfl
@[simp] theorem busError_draws (a : Word) : (busError a s).draws = s.draws := rfl
@[simp] theorem busError_drawnEvents (a : Word) : (busError a s).drawnEvents = s.drawnEvents := rfl
@[simp] theorem busError_schedule (a : Word) : (busError a s).schedule = s.schedule := rfl
@[simp] theorem busError_program (a : Word) : (busError a s).program = s.program := rfl

/-! ### complete -/

@[simp] theorem complete_geom (c : ResultCode) (d : Byte) : (complete c d s).geom = s.geom := rfl
@[simp] theorem complete_pix (c : ResultCode) (d : Byte) : (complete c d s).pix = s.pix := rfl
@[simp] theorem complete_pool (c : ResultCode) (d : Byte) : (complete c d s).pool = s.pool := rfl
@[simp] theorem complete_source (c : ResultCode) (d : Byte) :
    (complete c d s).source = s.source := rfl
@[simp] theorem complete_sess (c : ResultCode) (d : Byte) : (complete c d s).sess = s.sess := rfl
@[simp] theorem complete_spi (c : ResultCode) (d : Byte) : (complete c d s).spi = s.spi := rfl
@[simp] theorem complete_deb (c : ResultCode) (d : Byte) : (complete c d s).deb = s.deb := rfl
@[simp] theorem complete_fsm (c : ResultCode) (d : Byte) : (complete c d s).fsm = s.fsm := rfl
@[simp] theorem complete_cmd (c : ResultCode) (d : Byte) :
    (complete c d s).cmd = ⟨s.cmd.pending, c, d, s.cmd.opcode⟩ := rfl
@[simp] theorem complete_err (c : ResultCode) (d : Byte) : (complete c d s).err = s.err := rfl
@[simp] theorem complete_rep (c : ResultCode) (d : Byte) :
    (complete c d s).rep = { s.rep with irqPend := s.rep.irqPend ||| Irq.cmdDone.mask } := rfl
@[simp] theorem complete_cycle (c : ResultCode) (d : Byte) : (complete c d s).cycle = s.cycle := rfl
@[simp] theorem complete_fb0 (c : ResultCode) (d : Byte) : (complete c d s).fb0 = s.fb0 := rfl
@[simp] theorem complete_fb1 (c : ResultCode) (d : Byte) : (complete c d s).fb1 = s.fb1 := rfl
@[simp] theorem complete_srcMem (c : ResultCode) (d : Byte) :
    (complete c d s).srcMem = s.srcMem := rfl
@[simp] theorem complete_params (c : ResultCode) (d : Byte) :
    (complete c d s).params = s.params := rfl
@[simp] theorem complete_reply (c : ResultCode) (d : Byte) : (complete c d s).reply = s.reply := rfl
@[simp] theorem complete_draws (c : ResultCode) (d : Byte) : (complete c d s).draws = s.draws := rfl
@[simp] theorem complete_drawnEvents (c : ResultCode) (d : Byte) :
    (complete c d s).drawnEvents = s.drawnEvents := rfl
@[simp] theorem complete_schedule (c : ResultCode) (d : Byte) :
    (complete c d s).schedule = s.schedule := rfl
@[simp] theorem complete_program (c : ResultCode) (d : Byte) :
    (complete c d s).program = s.program := rfl

/-! ### pend -/

@[simp] theorem pend_geom (p : Pending) : (pend p s).geom = s.geom := rfl
@[simp] theorem pend_pix (p : Pending) : (pend p s).pix = s.pix := rfl
@[simp] theorem pend_pool (p : Pending) : (pend p s).pool = s.pool := rfl
@[simp] theorem pend_source (p : Pending) : (pend p s).source = s.source := rfl
@[simp] theorem pend_sess (p : Pending) : (pend p s).sess = s.sess := rfl
@[simp] theorem pend_spi (p : Pending) : (pend p s).spi = s.spi := rfl
@[simp] theorem pend_deb (p : Pending) : (pend p s).deb = s.deb := rfl
@[simp] theorem pend_fsm (p : Pending) : (pend p s).fsm = s.fsm := rfl
@[simp] theorem pend_cmd (p : Pending) : (pend p s).cmd = ⟨p, .pending, 0, s.cmd.opcode⟩ := rfl
@[simp] theorem pend_err (p : Pending) : (pend p s).err = s.err := rfl
@[simp] theorem pend_rep (p : Pending) : (pend p s).rep = s.rep := rfl
@[simp] theorem pend_cycle (p : Pending) : (pend p s).cycle = s.cycle := rfl
@[simp] theorem pend_fb0 (p : Pending) : (pend p s).fb0 = s.fb0 := rfl
@[simp] theorem pend_fb1 (p : Pending) : (pend p s).fb1 = s.fb1 := rfl
@[simp] theorem pend_srcMem (p : Pending) : (pend p s).srcMem = s.srcMem := rfl
@[simp] theorem pend_params (p : Pending) : (pend p s).params = s.params := rfl
@[simp] theorem pend_reply (p : Pending) : (pend p s).reply = s.reply := rfl
@[simp] theorem pend_draws (p : Pending) : (pend p s).draws = s.draws := rfl
@[simp] theorem pend_drawnEvents (p : Pending) : (pend p s).drawnEvents = s.drawnEvents := rfl
@[simp] theorem pend_schedule (p : Pending) : (pend p s).schedule = s.schedule := rfl
@[simp] theorem pend_program (p : Pending) : (pend p s).program = s.program := rfl

/-! ### completePending -/

@[simp] theorem completePending_geom : (completePending s).geom = s.geom := rfl
@[simp] theorem completePending_pix : (completePending s).pix = s.pix := rfl
@[simp] theorem completePending_pool : (completePending s).pool = s.pool := rfl
@[simp] theorem completePending_source : (completePending s).source = s.source := rfl
@[simp] theorem completePending_sess : (completePending s).sess = s.sess := rfl
@[simp] theorem completePending_spi : (completePending s).spi = s.spi := rfl
@[simp] theorem completePending_deb : (completePending s).deb = s.deb := rfl
@[simp] theorem completePending_fsm : (completePending s).fsm = s.fsm := rfl
@[simp] theorem completePending_cmd :
    (completePending s).cmd = ⟨.none, .ok, s.cmd.data, s.cmd.opcode⟩ := rfl
@[simp] theorem completePending_err : (completePending s).err = s.err := rfl
@[simp] theorem completePending_rep :
    (completePending s).rep = { s.rep with irqPend := s.rep.irqPend ||| Irq.cmdDone.mask } := rfl
@[simp] theorem completePending_cycle : (completePending s).cycle = s.cycle := rfl
@[simp] theorem completePending_fb0 : (completePending s).fb0 = s.fb0 := rfl
@[simp] theorem completePending_fb1 : (completePending s).fb1 = s.fb1 := rfl
@[simp] theorem completePending_srcMem : (completePending s).srcMem = s.srcMem := rfl
@[simp] theorem completePending_params : (completePending s).params = s.params := rfl
@[simp] theorem completePending_reply : (completePending s).reply = s.reply := rfl
@[simp] theorem completePending_draws : (completePending s).draws = s.draws := rfl
@[simp] theorem completePending_drawnEvents : (completePending s).drawnEvents = s.drawnEvents := rfl
@[simp] theorem completePending_schedule : (completePending s).schedule = s.schedule := rfl
@[simp] theorem completePending_program : (completePending s).program = s.program := rfl

/-! ### sessionBegin -/

@[simp] theorem sessionBegin_geom (k : Kind) : (sessionBegin k s).geom = s.geom := rfl
@[simp] theorem sessionBegin_pix (k : Kind) : (sessionBegin k s).pix = s.pix := rfl
@[simp] theorem sessionBegin_pool (k : Kind) : (sessionBegin k s).pool = s.pool := rfl
@[simp] theorem sessionBegin_source (k : Kind) :
    (sessionBegin k s).source = ⟨s.source.fileLen, 0, 0, .none, s.source.frameBase, s.source.offered⟩ := rfl
@[simp] theorem sessionBegin_sess (k : Kind) :
    (sessionBegin k s).sess = ⟨true, k, false, .top, s.sess.framePeriod, 0, s.cycle, s.sess.t0, false⟩ := rfl
@[simp] theorem sessionBegin_spi (k : Kind) : (sessionBegin k s).spi = s.spi := rfl
@[simp] theorem sessionBegin_deb (k : Kind) : (sessionBegin k s).deb = s.deb := rfl
@[simp] theorem sessionBegin_fsm (k : Kind) : (sessionBegin k s).fsm = s.fsm := rfl
@[simp] theorem sessionBegin_cmd (k : Kind) : (sessionBegin k s).cmd = s.cmd := rfl
@[simp] theorem sessionBegin_err (k : Kind) : (sessionBegin k s).err = s.err := rfl
@[simp] theorem sessionBegin_rep (k : Kind) : (sessionBegin k s).rep = s.rep := rfl
@[simp] theorem sessionBegin_cycle (k : Kind) : (sessionBegin k s).cycle = s.cycle := rfl
@[simp] theorem sessionBegin_fb0 (k : Kind) : (sessionBegin k s).fb0 = s.fb0 := rfl
@[simp] theorem sessionBegin_fb1 (k : Kind) : (sessionBegin k s).fb1 = s.fb1 := rfl
@[simp] theorem sessionBegin_srcMem (k : Kind) : (sessionBegin k s).srcMem = s.srcMem := rfl
@[simp] theorem sessionBegin_params (k : Kind) : (sessionBegin k s).params = s.params := rfl
@[simp] theorem sessionBegin_reply (k : Kind) : (sessionBegin k s).reply = s.reply := rfl
@[simp] theorem sessionBegin_draws (k : Kind) : (sessionBegin k s).draws = s.draws := rfl
@[simp] theorem sessionBegin_drawnEvents (k : Kind) :
    (sessionBegin k s).drawnEvents = s.drawnEvents := rfl
@[simp] theorem sessionBegin_schedule (k : Kind) : (sessionBegin k s).schedule = s.schedule := rfl
@[simp] theorem sessionBegin_program (k : Kind) : (sessionBegin k s).program = s.program := rfl

/-! ### workerAcquire -/

@[simp] theorem workerAcquire_geom : (workerAcquire s).geom = s.geom := rfl
@[simp] theorem workerAcquire_pix : (workerAcquire s).pix = s.pix := rfl
@[simp] theorem workerAcquire_pool : (workerAcquire s).pool = ⟨s.pool.front, .worker⟩ := rfl
@[simp] theorem workerAcquire_source : (workerAcquire s).source = s.source := rfl
@[simp] theorem workerAcquire_sess :
    (workerAcquire s).sess = { s.sess with phase := .convert } := rfl
@[simp] theorem workerAcquire_spi : (workerAcquire s).spi = s.spi := rfl
@[simp] theorem workerAcquire_deb : (workerAcquire s).deb = s.deb := rfl
@[simp] theorem workerAcquire_fsm : (workerAcquire s).fsm = s.fsm := rfl
@[simp] theorem workerAcquire_cmd : (workerAcquire s).cmd = s.cmd := rfl
@[simp] theorem workerAcquire_err : (workerAcquire s).err = s.err := rfl
@[simp] theorem workerAcquire_rep : (workerAcquire s).rep = s.rep := rfl
@[simp] theorem workerAcquire_cycle : (workerAcquire s).cycle = s.cycle := rfl
@[simp] theorem workerAcquire_fb0 : (workerAcquire s).fb0 = s.fb0 := rfl
@[simp] theorem workerAcquire_fb1 : (workerAcquire s).fb1 = s.fb1 := rfl
@[simp] theorem workerAcquire_srcMem : (workerAcquire s).srcMem = s.srcMem := rfl
@[simp] theorem workerAcquire_params : (workerAcquire s).params = s.params := rfl
@[simp] theorem workerAcquire_reply : (workerAcquire s).reply = s.reply := rfl
@[simp] theorem workerAcquire_draws : (workerAcquire s).draws = s.draws := rfl
@[simp] theorem workerAcquire_drawnEvents : (workerAcquire s).drawnEvents = s.drawnEvents := rfl
@[simp] theorem workerAcquire_schedule : (workerAcquire s).schedule = s.schedule := rfl
@[simp] theorem workerAcquire_program : (workerAcquire s).program = s.program := rfl

/-! ### commitAndSwap -/

@[simp] theorem commitAndSwap_geom : (commitAndSwap s).geom = s.geom := rfl
@[simp] theorem commitAndSwap_pix : (commitAndSwap s).pix = s.pix := rfl
@[simp] theorem commitAndSwap_pool : (commitAndSwap s).pool = ⟨s.pool.front.other, .none⟩ := rfl
@[simp] theorem commitAndSwap_source : (commitAndSwap s).source = s.source := rfl
@[simp] theorem commitAndSwap_sess : (commitAndSwap s).sess = s.sess := rfl
@[simp] theorem commitAndSwap_spi : (commitAndSwap s).spi = s.spi := rfl
@[simp] theorem commitAndSwap_deb : (commitAndSwap s).deb = s.deb := rfl
@[simp] theorem commitAndSwap_fsm : (commitAndSwap s).fsm = s.fsm := rfl
@[simp] theorem commitAndSwap_cmd : (commitAndSwap s).cmd = s.cmd := rfl
@[simp] theorem commitAndSwap_err : (commitAndSwap s).err = s.err := rfl
@[simp] theorem commitAndSwap_rep : (commitAndSwap s).rep = s.rep := rfl
@[simp] theorem commitAndSwap_cycle : (commitAndSwap s).cycle = s.cycle := rfl
@[simp] theorem commitAndSwap_fb0 : (commitAndSwap s).fb0 = s.fb0 := rfl
@[simp] theorem commitAndSwap_fb1 : (commitAndSwap s).fb1 = s.fb1 := rfl
@[simp] theorem commitAndSwap_srcMem : (commitAndSwap s).srcMem = s.srcMem := rfl
@[simp] theorem commitAndSwap_params : (commitAndSwap s).params = s.params := rfl
@[simp] theorem commitAndSwap_reply : (commitAndSwap s).reply = s.reply := rfl
@[simp] theorem commitAndSwap_draws : (commitAndSwap s).draws = s.draws := rfl
@[simp] theorem commitAndSwap_drawnEvents : (commitAndSwap s).drawnEvents = s.drawnEvents := rfl
@[simp] theorem commitAndSwap_schedule : (commitAndSwap s).schedule = s.schedule := rfl
@[simp] theorem commitAndSwap_program : (commitAndSwap s).program = s.program := rfl

/-! ### spiStart -/

@[simp] theorem spiStart_geom (b : Buf) (p : Presenter) : (spiStart b p s).geom = s.geom := rfl
@[simp] theorem spiStart_pix (b : Buf) (p : Presenter) : (spiStart b p s).pix = s.pix := rfl
@[simp] theorem spiStart_pool (b : Buf) (p : Presenter) : (spiStart b p s).pool = s.pool := rfl
@[simp] theorem spiStart_source (b : Buf) (p : Presenter) :
    (spiStart b p s).source = s.source := rfl
@[simp] theorem spiStart_sess (b : Buf) (p : Presenter) : (spiStart b p s).sess = s.sess := rfl
@[simp] theorem spiStart_spi (b : Buf) (p : Presenter) :
    (spiStart b p s).spi = { s.spi with
      buf := b, len := BitVec.ofNat 32 (2 * s.pixels), idx := 0, cmdPhase := s.spi.cmdEn
      cmdV := s.spi.cmdByte, src := p, busy := true, csN := false, current := ⟨none, [], false⟩ } := rfl
@[simp] theorem spiStart_deb (b : Buf) (p : Presenter) : (spiStart b p s).deb = s.deb := rfl
@[simp] theorem spiStart_fsm (b : Buf) (p : Presenter) : (spiStart b p s).fsm = s.fsm := rfl
@[simp] theorem spiStart_cmd (b : Buf) (p : Presenter) : (spiStart b p s).cmd = s.cmd := rfl
@[simp] theorem spiStart_err (b : Buf) (p : Presenter) : (spiStart b p s).err = s.err := rfl
@[simp] theorem spiStart_rep (b : Buf) (p : Presenter) : (spiStart b p s).rep = s.rep := rfl
@[simp] theorem spiStart_cycle (b : Buf) (p : Presenter) : (spiStart b p s).cycle = s.cycle := rfl
@[simp] theorem spiStart_fb0 (b : Buf) (p : Presenter) : (spiStart b p s).fb0 = s.fb0 := rfl
@[simp] theorem spiStart_fb1 (b : Buf) (p : Presenter) : (spiStart b p s).fb1 = s.fb1 := rfl
@[simp] theorem spiStart_srcMem (b : Buf) (p : Presenter) :
    (spiStart b p s).srcMem = s.srcMem := rfl
@[simp] theorem spiStart_params (b : Buf) (p : Presenter) :
    (spiStart b p s).params = s.params := rfl
@[simp] theorem spiStart_reply (b : Buf) (p : Presenter) : (spiStart b p s).reply = s.reply := rfl
@[simp] theorem spiStart_draws (b : Buf) (p : Presenter) : (spiStart b p s).draws = s.draws := rfl
@[simp] theorem spiStart_drawnEvents (b : Buf) (p : Presenter) :
    (spiStart b p s).drawnEvents = s.drawnEvents := rfl
@[simp] theorem spiStart_schedule (b : Buf) (p : Presenter) :
    (spiStart b p s).schedule = s.schedule := rfl
@[simp] theorem spiStart_program (b : Buf) (p : Presenter) :
    (spiStart b p s).program = s.program := rfl

/-! ### switchRequest -/

@[simp] theorem switchRequest_geom (t : Mode) : (switchRequest t s).geom = s.geom := rfl
@[simp] theorem switchRequest_pix (t : Mode) : (switchRequest t s).pix = s.pix := rfl
@[simp] theorem switchRequest_pool (t : Mode) : (switchRequest t s).pool = s.pool := rfl
@[simp] theorem switchRequest_source (t : Mode) : (switchRequest t s).source = s.source := rfl
@[simp] theorem switchRequest_sess (t : Mode) :
    (switchRequest t s).sess = { s.sess with cancel := s.sess.active || s.sess.cancel } := rfl
@[simp] theorem switchRequest_spi (t : Mode) : (switchRequest t s).spi = s.spi := rfl
@[simp] theorem switchRequest_deb (t : Mode) : (switchRequest t s).deb = s.deb := rfl
@[simp] theorem switchRequest_fsm (t : Mode) :
    (switchRequest t s).fsm = { s.fsm with
      switchPending := true, switchTarget := t, gesture := .idle, holdCnt := 0 } := rfl
@[simp] theorem switchRequest_cmd (t : Mode) : (switchRequest t s).cmd = s.cmd := rfl
@[simp] theorem switchRequest_err (t : Mode) : (switchRequest t s).err = s.err := rfl
@[simp] theorem switchRequest_rep (t : Mode) : (switchRequest t s).rep = s.rep := rfl
@[simp] theorem switchRequest_cycle (t : Mode) : (switchRequest t s).cycle = s.cycle := rfl
@[simp] theorem switchRequest_fb0 (t : Mode) : (switchRequest t s).fb0 = s.fb0 := rfl
@[simp] theorem switchRequest_fb1 (t : Mode) : (switchRequest t s).fb1 = s.fb1 := rfl
@[simp] theorem switchRequest_srcMem (t : Mode) : (switchRequest t s).srcMem = s.srcMem := rfl
@[simp] theorem switchRequest_params (t : Mode) : (switchRequest t s).params = s.params := rfl
@[simp] theorem switchRequest_reply (t : Mode) : (switchRequest t s).reply = s.reply := rfl
@[simp] theorem switchRequest_draws (t : Mode) : (switchRequest t s).draws = s.draws := rfl
@[simp] theorem switchRequest_drawnEvents (t : Mode) :
    (switchRequest t s).drawnEvents = s.drawnEvents := rfl
@[simp] theorem switchRequest_schedule (t : Mode) : (switchRequest t s).schedule = s.schedule := rfl
@[simp] theorem switchRequest_program (t : Mode) : (switchRequest t s).program = s.program := rfl

/-! ### latchOpcode -/

@[simp] theorem latchOpcode_geom (w : Word) : (latchOpcode w s).geom = s.geom := rfl
@[simp] theorem latchOpcode_pix (w : Word) : (latchOpcode w s).pix = s.pix := rfl
@[simp] theorem latchOpcode_pool (w : Word) : (latchOpcode w s).pool = s.pool := rfl
@[simp] theorem latchOpcode_source (w : Word) : (latchOpcode w s).source = s.source := rfl
@[simp] theorem latchOpcode_sess (w : Word) : (latchOpcode w s).sess = s.sess := rfl
@[simp] theorem latchOpcode_spi (w : Word) : (latchOpcode w s).spi = s.spi := rfl
@[simp] theorem latchOpcode_deb (w : Word) : (latchOpcode w s).deb = s.deb := rfl
@[simp] theorem latchOpcode_fsm (w : Word) : (latchOpcode w s).fsm = s.fsm := rfl
@[simp] theorem latchOpcode_cmd (w : Word) :
    (latchOpcode w s).cmd = { s.cmd with opcode := opcodeOf w } := rfl
@[simp] theorem latchOpcode_err (w : Word) : (latchOpcode w s).err = s.err := rfl
@[simp] theorem latchOpcode_rep (w : Word) : (latchOpcode w s).rep = s.rep := rfl
@[simp] theorem latchOpcode_cycle (w : Word) : (latchOpcode w s).cycle = s.cycle := rfl
@[simp] theorem latchOpcode_fb0 (w : Word) : (latchOpcode w s).fb0 = s.fb0 := rfl
@[simp] theorem latchOpcode_fb1 (w : Word) : (latchOpcode w s).fb1 = s.fb1 := rfl
@[simp] theorem latchOpcode_srcMem (w : Word) : (latchOpcode w s).srcMem = s.srcMem := rfl
@[simp] theorem latchOpcode_params (w : Word) : (latchOpcode w s).params = s.params := rfl
@[simp] theorem latchOpcode_reply (w : Word) : (latchOpcode w s).reply = some ⟨.ok, 0⟩ := rfl
@[simp] theorem latchOpcode_draws (w : Word) : (latchOpcode w s).draws = s.draws := rfl
@[simp] theorem latchOpcode_drawnEvents (w : Word) :
    (latchOpcode w s).drawnEvents = s.drawnEvents := rfl
@[simp] theorem latchOpcode_schedule (w : Word) : (latchOpcode w s).schedule = s.schedule := rfl
@[simp] theorem latchOpcode_program (w : Word) : (latchOpcode w s).program = s.program := rfl

/-! ### synchronise -/

@[simp] theorem synchronise_geom (b : Bool) : (synchronise b s).geom = s.geom := rfl
@[simp] theorem synchronise_pix (b : Bool) : (synchronise b s).pix = s.pix := rfl
@[simp] theorem synchronise_pool (b : Bool) : (synchronise b s).pool = s.pool := rfl
@[simp] theorem synchronise_source (b : Bool) : (synchronise b s).source = s.source := rfl
@[simp] theorem synchronise_sess (b : Bool) : (synchronise b s).sess = s.sess := rfl
@[simp] theorem synchronise_spi (b : Bool) : (synchronise b s).spi = s.spi := rfl
@[simp] theorem synchronise_deb (b : Bool) :
    (synchronise b s).deb = { s.deb with sync2 := s.deb.sync1, sync1 := b } := rfl
@[simp] theorem synchronise_fsm (b : Bool) : (synchronise b s).fsm = s.fsm := rfl
@[simp] theorem synchronise_cmd (b : Bool) : (synchronise b s).cmd = s.cmd := rfl
@[simp] theorem synchronise_err (b : Bool) : (synchronise b s).err = s.err := rfl
@[simp] theorem synchronise_rep (b : Bool) : (synchronise b s).rep = s.rep := rfl
@[simp] theorem synchronise_cycle (b : Bool) : (synchronise b s).cycle = s.cycle := rfl
@[simp] theorem synchronise_fb0 (b : Bool) : (synchronise b s).fb0 = s.fb0 := rfl
@[simp] theorem synchronise_fb1 (b : Bool) : (synchronise b s).fb1 = s.fb1 := rfl
@[simp] theorem synchronise_srcMem (b : Bool) : (synchronise b s).srcMem = s.srcMem := rfl
@[simp] theorem synchronise_params (b : Bool) : (synchronise b s).params = s.params := rfl
@[simp] theorem synchronise_reply (b : Bool) : (synchronise b s).reply = s.reply := rfl
@[simp] theorem synchronise_draws (b : Bool) : (synchronise b s).draws = s.draws := rfl
@[simp] theorem synchronise_drawnEvents (b : Bool) :
    (synchronise b s).drawnEvents = s.drawnEvents := rfl
@[simp] theorem synchronise_schedule (b : Bool) : (synchronise b s).schedule = s.schedule := rfl
@[simp] theorem synchronise_program (b : Bool) : (synchronise b s).program = s.program := rfl

/-! ### restartWindow -/

@[simp] theorem restartWindow_geom : (restartWindow s).geom = s.geom := rfl
@[simp] theorem restartWindow_pix : (restartWindow s).pix = s.pix := rfl
@[simp] theorem restartWindow_pool : (restartWindow s).pool = s.pool := rfl
@[simp] theorem restartWindow_source : (restartWindow s).source = s.source := rfl
@[simp] theorem restartWindow_sess : (restartWindow s).sess = s.sess := rfl
@[simp] theorem restartWindow_spi : (restartWindow s).spi = s.spi := rfl
@[simp] theorem restartWindow_deb :
    (restartWindow s).deb = { s.deb with tmr := 0, k := 0, agree := true } := rfl
@[simp] theorem restartWindow_fsm : (restartWindow s).fsm = s.fsm := rfl
@[simp] theorem restartWindow_cmd : (restartWindow s).cmd = s.cmd := rfl
@[simp] theorem restartWindow_err : (restartWindow s).err = s.err := rfl
@[simp] theorem restartWindow_rep : (restartWindow s).rep = s.rep := rfl
@[simp] theorem restartWindow_cycle : (restartWindow s).cycle = s.cycle := rfl
@[simp] theorem restartWindow_fb0 : (restartWindow s).fb0 = s.fb0 := rfl
@[simp] theorem restartWindow_fb1 : (restartWindow s).fb1 = s.fb1 := rfl
@[simp] theorem restartWindow_srcMem : (restartWindow s).srcMem = s.srcMem := rfl
@[simp] theorem restartWindow_params : (restartWindow s).params = s.params := rfl
@[simp] theorem restartWindow_reply : (restartWindow s).reply = s.reply := rfl
@[simp] theorem restartWindow_draws : (restartWindow s).draws = s.draws := rfl
@[simp] theorem restartWindow_drawnEvents : (restartWindow s).drawnEvents = s.drawnEvents := rfl
@[simp] theorem restartWindow_schedule : (restartWindow s).schedule = s.schedule := rfl
@[simp] theorem restartWindow_program : (restartWindow s).program = s.program := rfl

/-! ### spiRelease -/

@[simp] theorem spiRelease_geom : (spiRelease s).geom = s.geom := rfl
@[simp] theorem spiRelease_pix : (spiRelease s).pix = s.pix := rfl
@[simp] theorem spiRelease_pool : (spiRelease s).pool = s.pool := rfl
@[simp] theorem spiRelease_source : (spiRelease s).source = s.source := rfl
@[simp] theorem spiRelease_sess : (spiRelease s).sess = s.sess := rfl
@[simp] theorem spiRelease_spi :
    (spiRelease s).spi = { s.spi with
      csN := true, dc := true, mosi := false, busy := false, sent := s.spi.sent ++ [s.spi.current] } := rfl
@[simp] theorem spiRelease_deb : (spiRelease s).deb = s.deb := rfl
@[simp] theorem spiRelease_fsm : (spiRelease s).fsm = s.fsm := rfl
@[simp] theorem spiRelease_cmd : (spiRelease s).cmd = s.cmd := rfl
@[simp] theorem spiRelease_err : (spiRelease s).err = s.err := rfl
@[simp] theorem spiRelease_rep : (spiRelease s).rep = s.rep := rfl
@[simp] theorem spiRelease_cycle : (spiRelease s).cycle = s.cycle := rfl
@[simp] theorem spiRelease_fb0 : (spiRelease s).fb0 = s.fb0 := rfl
@[simp] theorem spiRelease_fb1 : (spiRelease s).fb1 = s.fb1 := rfl
@[simp] theorem spiRelease_srcMem : (spiRelease s).srcMem = s.srcMem := rfl
@[simp] theorem spiRelease_params : (spiRelease s).params = s.params := rfl
@[simp] theorem spiRelease_reply : (spiRelease s).reply = s.reply := rfl
@[simp] theorem spiRelease_draws : (spiRelease s).draws = s.draws := rfl
@[simp] theorem spiRelease_drawnEvents : (spiRelease s).drawnEvents = s.drawnEvents := rfl
@[simp] theorem spiRelease_schedule : (spiRelease s).schedule = s.schedule := rfl
@[simp] theorem spiRelease_program : (spiRelease s).program = s.program := rfl

/-! ### shiftOut -/

@[simp] theorem shiftOut_geom (dc : Bool) (x : Byte) : (shiftOut dc x s).geom = s.geom := rfl
@[simp] theorem shiftOut_pix (dc : Bool) (x : Byte) : (shiftOut dc x s).pix = s.pix := rfl
@[simp] theorem shiftOut_pool (dc : Bool) (x : Byte) : (shiftOut dc x s).pool = s.pool := rfl
@[simp] theorem shiftOut_source (dc : Bool) (x : Byte) : (shiftOut dc x s).source = s.source := rfl
@[simp] theorem shiftOut_sess (dc : Bool) (x : Byte) : (shiftOut dc x s).sess = s.sess := rfl
@[simp] theorem shiftOut_spi (dc : Bool) (x : Byte) :
    (shiftOut dc x s).spi = { s.spi with
      dc := dc, wave := byteWave s.spi.div.toNat x, sclk := false, mosi := x.getLsbD 0 } := rfl
@[simp] theorem shiftOut_deb (dc : Bool) (x : Byte) : (shiftOut dc x s).deb = s.deb := rfl
@[simp] theorem shiftOut_fsm (dc : Bool) (x : Byte) : (shiftOut dc x s).fsm = s.fsm := rfl
@[simp] theorem shiftOut_cmd (dc : Bool) (x : Byte) : (shiftOut dc x s).cmd = s.cmd := rfl
@[simp] theorem shiftOut_err (dc : Bool) (x : Byte) : (shiftOut dc x s).err = s.err := rfl
@[simp] theorem shiftOut_rep (dc : Bool) (x : Byte) : (shiftOut dc x s).rep = s.rep := rfl
@[simp] theorem shiftOut_cycle (dc : Bool) (x : Byte) : (shiftOut dc x s).cycle = s.cycle := rfl
@[simp] theorem shiftOut_fb0 (dc : Bool) (x : Byte) : (shiftOut dc x s).fb0 = s.fb0 := rfl
@[simp] theorem shiftOut_fb1 (dc : Bool) (x : Byte) : (shiftOut dc x s).fb1 = s.fb1 := rfl
@[simp] theorem shiftOut_srcMem (dc : Bool) (x : Byte) : (shiftOut dc x s).srcMem = s.srcMem := rfl
@[simp] theorem shiftOut_params (dc : Bool) (x : Byte) : (shiftOut dc x s).params = s.params := rfl
@[simp] theorem shiftOut_reply (dc : Bool) (x : Byte) : (shiftOut dc x s).reply = s.reply := rfl
@[simp] theorem shiftOut_draws (dc : Bool) (x : Byte) : (shiftOut dc x s).draws = s.draws := rfl
@[simp] theorem shiftOut_drawnEvents (dc : Bool) (x : Byte) :
    (shiftOut dc x s).drawnEvents = s.drawnEvents := rfl
@[simp] theorem shiftOut_schedule (dc : Bool) (x : Byte) :
    (shiftOut dc x s).schedule = s.schedule := rfl
@[simp] theorem shiftOut_program (dc : Bool) (x : Byte) :
    (shiftOut dc x s).program = s.program := rfl

/-! ### offerByte -/

@[simp] theorem offerByte_geom (x : Byte) : (offerByte x s).geom = s.geom := rfl
@[simp] theorem offerByte_pix (x : Byte) : (offerByte x s).pix = s.pix := rfl
@[simp] theorem offerByte_pool (x : Byte) : (offerByte x s).pool = s.pool := rfl
@[simp] theorem offerByte_source (x : Byte) :
    (offerByte x s).source = { s.source with offered := s.source.offered ++ [x] } := rfl
@[simp] theorem offerByte_sess (x : Byte) : (offerByte x s).sess = s.sess := rfl
@[simp] theorem offerByte_spi (x : Byte) : (offerByte x s).spi = s.spi := rfl
@[simp] theorem offerByte_deb (x : Byte) : (offerByte x s).deb = s.deb := rfl
@[simp] theorem offerByte_fsm (x : Byte) : (offerByte x s).fsm = s.fsm := rfl
@[simp] theorem offerByte_cmd (x : Byte) : (offerByte x s).cmd = s.cmd := rfl
@[simp] theorem offerByte_err (x : Byte) : (offerByte x s).err = s.err := rfl
@[simp] theorem offerByte_rep (x : Byte) : (offerByte x s).rep = s.rep := rfl
@[simp] theorem offerByte_cycle (x : Byte) : (offerByte x s).cycle = s.cycle := rfl
@[simp] theorem offerByte_fb0 (x : Byte) : (offerByte x s).fb0 = s.fb0 := rfl
@[simp] theorem offerByte_fb1 (x : Byte) : (offerByte x s).fb1 = s.fb1 := rfl
@[simp] theorem offerByte_srcMem (x : Byte) : (offerByte x s).srcMem = s.srcMem := rfl
@[simp] theorem offerByte_params (x : Byte) : (offerByte x s).params = s.params := rfl
@[simp] theorem offerByte_reply (x : Byte) : (offerByte x s).reply = s.reply := rfl
@[simp] theorem offerByte_draws (x : Byte) : (offerByte x s).draws = s.draws := rfl
@[simp] theorem offerByte_drawnEvents (x : Byte) :
    (offerByte x s).drawnEvents = s.drawnEvents := rfl
@[simp] theorem offerByte_schedule (x : Byte) : (offerByte x s).schedule = s.schedule := rfl
@[simp] theorem offerByte_program (x : Byte) : (offerByte x s).program = s.program := rfl

/-! ### placeCommand -/

@[simp] theorem placeCommand_geom (w : Word) : (placeCommand w s).geom = s.geom := rfl
@[simp] theorem placeCommand_pix (w : Word) : (placeCommand w s).pix = s.pix := rfl
@[simp] theorem placeCommand_pool (w : Word) : (placeCommand w s).pool = s.pool := rfl
@[simp] theorem placeCommand_source (w : Word) : (placeCommand w s).source = s.source := rfl
@[simp] theorem placeCommand_sess (w : Word) : (placeCommand w s).sess = s.sess := rfl
@[simp] theorem placeCommand_spi (w : Word) : (placeCommand w s).spi = s.spi := rfl
@[simp] theorem placeCommand_deb (w : Word) : (placeCommand w s).deb = s.deb := rfl
@[simp] theorem placeCommand_fsm (w : Word) : (placeCommand w s).fsm = s.fsm := rfl
@[simp] theorem placeCommand_cmd (w : Word) :
    (placeCommand w s).cmd = { s.cmd with pending := .none } := rfl
@[simp] theorem placeCommand_err (w : Word) : (placeCommand w s).err = s.err := rfl
@[simp] theorem placeCommand_rep (w : Word) : (placeCommand w s).rep = s.rep := rfl
@[simp] theorem placeCommand_cycle (w : Word) : (placeCommand w s).cycle = s.cycle := rfl
@[simp] theorem placeCommand_fb0 (w : Word) : (placeCommand w s).fb0 = s.fb0 := rfl
@[simp] theorem placeCommand_fb1 (w : Word) : (placeCommand w s).fb1 = s.fb1 := rfl
@[simp] theorem placeCommand_srcMem (w : Word) : (placeCommand w s).srcMem = s.srcMem := rfl
@[simp] theorem placeCommand_params (w : Word) : (placeCommand w s).params = s.params := rfl
@[simp] theorem placeCommand_reply (w : Word) : (placeCommand w s).reply = s.reply := rfl
@[simp] theorem placeCommand_draws (w : Word) : (placeCommand w s).draws = s.draws := rfl
@[simp] theorem placeCommand_drawnEvents (w : Word) :
    (placeCommand w s).drawnEvents = s.drawnEvents := rfl
@[simp] theorem placeCommand_schedule (w : Word) :
    (placeCommand w s).schedule = .host (.write cmdAddr .b4 w) :: s.schedule := rfl
@[simp] theorem placeCommand_program (w : Word) :
    (placeCommand w s).program = s.program := rfl

/-! ### setFb -/

@[simp] theorem setFb_geom (b : Buf) (m : Memory) : (s.setFb b m).geom = s.geom := by
  cases b <;> rfl
@[simp] theorem setFb_pix (b : Buf) (m : Memory) : (s.setFb b m).pix = s.pix := by
  cases b <;> rfl
@[simp] theorem setFb_pool (b : Buf) (m : Memory) : (s.setFb b m).pool = s.pool := by
  cases b <;> rfl
@[simp] theorem setFb_source (b : Buf) (m : Memory) : (s.setFb b m).source = s.source := by
  cases b <;> rfl
@[simp] theorem setFb_sess (b : Buf) (m : Memory) : (s.setFb b m).sess = s.sess := by
  cases b <;> rfl
@[simp] theorem setFb_spi (b : Buf) (m : Memory) : (s.setFb b m).spi = s.spi := by
  cases b <;> rfl
@[simp] theorem setFb_deb (b : Buf) (m : Memory) : (s.setFb b m).deb = s.deb := by
  cases b <;> rfl
@[simp] theorem setFb_fsm (b : Buf) (m : Memory) : (s.setFb b m).fsm = s.fsm := by
  cases b <;> rfl
@[simp] theorem setFb_cmd (b : Buf) (m : Memory) : (s.setFb b m).cmd = s.cmd := by
  cases b <;> rfl
@[simp] theorem setFb_err (b : Buf) (m : Memory) : (s.setFb b m).err = s.err := by
  cases b <;> rfl
@[simp] theorem setFb_rep (b : Buf) (m : Memory) : (s.setFb b m).rep = s.rep := by
  cases b <;> rfl
@[simp] theorem setFb_cycle (b : Buf) (m : Memory) : (s.setFb b m).cycle = s.cycle := by
  cases b <;> rfl
@[simp] theorem setFb_srcMem (b : Buf) (m : Memory) : (s.setFb b m).srcMem = s.srcMem := by
  cases b <;> rfl
@[simp] theorem setFb_params (b : Buf) (m : Memory) : (s.setFb b m).params = s.params := by
  cases b <;> rfl
@[simp] theorem setFb_reply (b : Buf) (m : Memory) : (s.setFb b m).reply = s.reply := by
  cases b <;> rfl
@[simp] theorem setFb_draws (b : Buf) (m : Memory) : (s.setFb b m).draws = s.draws := by
  cases b <;> rfl
@[simp] theorem setFb_drawnEvents (b : Buf) (m : Memory) : (s.setFb b m).drawnEvents = s.drawnEvents := by
  cases b <;> rfl
@[simp] theorem setFb_schedule (b : Buf) (m : Memory) : (s.setFb b m).schedule = s.schedule := by
  cases b <;> rfl
@[simp] theorem setFb_program (b : Buf) (m : Memory) : (s.setFb b m).program = s.program := by
  cases b <;> rfl
@[simp] theorem setFb_fb_same (b : Buf) (m : Memory) : (s.setFb b m).fb b = m := by cases b <;> rfl
@[simp] theorem setFb_fb_other (b : Buf) (m : Memory) : (s.setFb b m).fb b.other = s.fb b.other := by
  cases b <;> rfl

/-! ### recordError -/

@[simp] theorem recordError_geom (r : EndReason) : (recordError r s).geom = s.geom := by
  cases r <;> rfl
@[simp] theorem recordError_pix (r : EndReason) : (recordError r s).pix = s.pix := by
  cases r <;> rfl
@[simp] theorem recordError_pool (r : EndReason) : (recordError r s).pool = s.pool := by
  cases r <;> rfl
@[simp] theorem recordError_source (r : EndReason) : (recordError r s).source = s.source := by
  cases r <;> rfl
@[simp] theorem recordError_sess (r : EndReason) : (recordError r s).sess = s.sess := by
  cases r <;> rfl
@[simp] theorem recordError_spi (r : EndReason) : (recordError r s).spi = s.spi := by
  cases r <;> rfl
@[simp] theorem recordError_deb (r : EndReason) : (recordError r s).deb = s.deb := by
  cases r <;> rfl
@[simp] theorem recordError_fsm (r : EndReason) : (recordError r s).fsm = s.fsm := by
  cases r <;> rfl
@[simp] theorem recordError_cmd (r : EndReason) : (recordError r s).cmd = s.cmd := by
  cases r <;> rfl
@[simp] theorem recordError_rep (r : EndReason) : (recordError r s).rep = s.rep := by
  cases r <;> rfl
@[simp] theorem recordError_cycle (r : EndReason) : (recordError r s).cycle = s.cycle := by
  cases r <;> rfl
@[simp] theorem recordError_fb0 (r : EndReason) : (recordError r s).fb0 = s.fb0 := by
  cases r <;> rfl
@[simp] theorem recordError_fb1 (r : EndReason) : (recordError r s).fb1 = s.fb1 := by
  cases r <;> rfl
@[simp] theorem recordError_srcMem (r : EndReason) : (recordError r s).srcMem = s.srcMem := by
  cases r <;> rfl
@[simp] theorem recordError_params (r : EndReason) : (recordError r s).params = s.params := by
  cases r <;> rfl
@[simp] theorem recordError_reply (r : EndReason) : (recordError r s).reply = s.reply := by
  cases r <;> rfl
@[simp] theorem recordError_draws (r : EndReason) : (recordError r s).draws = s.draws := by
  cases r <;> rfl
@[simp] theorem recordError_drawnEvents (r : EndReason) : (recordError r s).drawnEvents = s.drawnEvents := by
  cases r <;> rfl
@[simp] theorem recordError_schedule (r : EndReason) : (recordError r s).schedule = s.schedule := by
  cases r <;> rfl
@[simp] theorem recordError_program (r : EndReason) : (recordError r s).program = s.program := by
  cases r <;> rfl

/-! ### completeStop -/

@[simp] theorem completeStop_geom : (completeStop s).geom = s.geom := by
  unfold completeStop; split <;> rfl
@[simp] theorem completeStop_pix : (completeStop s).pix = s.pix := by
  unfold completeStop; split <;> rfl
@[simp] theorem completeStop_pool : (completeStop s).pool = s.pool := by
  unfold completeStop; split <;> rfl
@[simp] theorem completeStop_source : (completeStop s).source = s.source := by
  unfold completeStop; split <;> rfl
@[simp] theorem completeStop_sess : (completeStop s).sess = s.sess := by
  unfold completeStop; split <;> rfl
@[simp] theorem completeStop_spi : (completeStop s).spi = s.spi := by
  unfold completeStop; split <;> rfl
@[simp] theorem completeStop_deb : (completeStop s).deb = s.deb := by
  unfold completeStop; split <;> rfl
@[simp] theorem completeStop_fsm : (completeStop s).fsm = s.fsm := by
  unfold completeStop; split <;> rfl
@[simp] theorem completeStop_err : (completeStop s).err = s.err := by
  unfold completeStop; split <;> rfl
@[simp] theorem completeStop_cycle : (completeStop s).cycle = s.cycle := by
  unfold completeStop; split <;> rfl
@[simp] theorem completeStop_fb0 : (completeStop s).fb0 = s.fb0 := by
  unfold completeStop; split <;> rfl
@[simp] theorem completeStop_fb1 : (completeStop s).fb1 = s.fb1 := by
  unfold completeStop; split <;> rfl
@[simp] theorem completeStop_srcMem : (completeStop s).srcMem = s.srcMem := by
  unfold completeStop; split <;> rfl
@[simp] theorem completeStop_params : (completeStop s).params = s.params := by
  unfold completeStop; split <;> rfl
@[simp] theorem completeStop_reply : (completeStop s).reply = s.reply := by
  unfold completeStop; split <;> rfl
@[simp] theorem completeStop_draws : (completeStop s).draws = s.draws := by
  unfold completeStop; split <;> rfl
@[simp] theorem completeStop_drawnEvents : (completeStop s).drawnEvents = s.drawnEvents := by
  unfold completeStop; split <;> rfl
@[simp] theorem completeStop_schedule : (completeStop s).schedule = s.schedule := by
  unfold completeStop; split <;> rfl
@[simp] theorem completeStop_program : (completeStop s).program = s.program := by
  unfold completeStop; split <;> rfl

/-! ### sessionEnd -/

@[simp] theorem sessionEnd_geom (r : EndReason) : (sessionEnd r s).geom = s.geom := by
  unfold sessionEnd; simp
@[simp] theorem sessionEnd_pix (r : EndReason) : (sessionEnd r s).pix = s.pix := by
  unfold sessionEnd; simp
@[simp] theorem sessionEnd_pool (r : EndReason) : (sessionEnd r s).pool = s.pool := by
  unfold sessionEnd; simp
@[simp] theorem sessionEnd_source (r : EndReason) : (sessionEnd r s).source = s.source := by
  unfold sessionEnd; simp
@[simp] theorem sessionEnd_spi (r : EndReason) : (sessionEnd r s).spi = s.spi := by
  unfold sessionEnd; simp
@[simp] theorem sessionEnd_deb (r : EndReason) : (sessionEnd r s).deb = s.deb := by
  unfold sessionEnd; simp
@[simp] theorem sessionEnd_fsm (r : EndReason) : (sessionEnd r s).fsm = s.fsm := by
  unfold sessionEnd; simp
@[simp] theorem sessionEnd_cycle (r : EndReason) : (sessionEnd r s).cycle = s.cycle := by
  unfold sessionEnd; simp
@[simp] theorem sessionEnd_fb0 (r : EndReason) : (sessionEnd r s).fb0 = s.fb0 := by
  unfold sessionEnd; simp
@[simp] theorem sessionEnd_fb1 (r : EndReason) : (sessionEnd r s).fb1 = s.fb1 := by
  unfold sessionEnd; simp
@[simp] theorem sessionEnd_srcMem (r : EndReason) : (sessionEnd r s).srcMem = s.srcMem := by
  unfold sessionEnd; simp
@[simp] theorem sessionEnd_params (r : EndReason) : (sessionEnd r s).params = s.params := by
  unfold sessionEnd; simp
@[simp] theorem sessionEnd_reply (r : EndReason) : (sessionEnd r s).reply = s.reply := by
  unfold sessionEnd; simp
@[simp] theorem sessionEnd_draws (r : EndReason) : (sessionEnd r s).draws = s.draws := by
  unfold sessionEnd; simp
@[simp] theorem sessionEnd_drawnEvents (r : EndReason) : (sessionEnd r s).drawnEvents = s.drawnEvents := by
  unfold sessionEnd; simp
@[simp] theorem sessionEnd_schedule (r : EndReason) : (sessionEnd r s).schedule = s.schedule := by
  unfold sessionEnd; simp
@[simp] theorem sessionEnd_program (r : EndReason) : (sessionEnd r s).program = s.program := by
  unfold sessionEnd; simp

/-- Whatever the reason, the session is over: not Active, IDLE, no cancellation left (R335). -/
@[simp] theorem sessionEnd_sess (r : EndReason) :
    (sessionEnd r s).sess = { s.sess with active := false, phase := .idle, cancel := false } := by
  unfold sessionEnd; simp

@[simp] theorem sessionEnd_stopped_err : (sessionEnd .stopped s).err = s.err := by
  unfold sessionEnd completeStop; split <;> rfl

@[simp] theorem sessionEnd_fatal_err (c : Cause) :
    (sessionEnd (.fatal c) s).err = ⟨c, !s.sess.firstFrameDone, s.sess.kind⟩ := by
  unfold sessionEnd completeStop; split <;> rfl

/-- A pending STOP completes with OK; any other command port is left as it is (R335). -/
@[simp] theorem sessionEnd_cmd (r : EndReason) :
    (sessionEnd r s).cmd =
      if s.cmd.pending = .stop then { s.cmd with pending := .none, code := .ok } else s.cmd := by
  by_cases h : s.cmd.pending = .stop <;> simp [sessionEnd, completeStop, h]

/-! ### enterMode -/

@[simp] theorem enterMode_geom (t : Mode) : (enterMode t s).geom = s.geom := by
  unfold enterMode; split <;> rfl
@[simp] theorem enterMode_pix (t : Mode) : (enterMode t s).pix = s.pix := by
  unfold enterMode; split <;> rfl
@[simp] theorem enterMode_pool (t : Mode) : (enterMode t s).pool = s.pool := by
  unfold enterMode; split <;> rfl
@[simp] theorem enterMode_source (t : Mode) : (enterMode t s).source = s.source := by
  unfold enterMode; split <;> rfl
@[simp] theorem enterMode_sess (t : Mode) : (enterMode t s).sess = s.sess := by
  unfold enterMode; split <;> rfl
@[simp] theorem enterMode_spi (t : Mode) : (enterMode t s).spi = s.spi := by
  unfold enterMode; split <;> rfl
@[simp] theorem enterMode_deb (t : Mode) : (enterMode t s).deb = s.deb := by
  unfold enterMode; split <;> rfl
@[simp] theorem enterMode_cmd (t : Mode) : (enterMode t s).cmd = s.cmd := by
  unfold enterMode; split <;> rfl
@[simp] theorem enterMode_err (t : Mode) : (enterMode t s).err = s.err := by
  unfold enterMode; split <;> rfl
@[simp] theorem enterMode_cycle (t : Mode) : (enterMode t s).cycle = s.cycle := by
  unfold enterMode; split <;> rfl
@[simp] theorem enterMode_fb0 (t : Mode) : (enterMode t s).fb0 = s.fb0 := by
  unfold enterMode; split <;> rfl
@[simp] theorem enterMode_fb1 (t : Mode) : (enterMode t s).fb1 = s.fb1 := by
  unfold enterMode; split <;> rfl
@[simp] theorem enterMode_srcMem (t : Mode) : (enterMode t s).srcMem = s.srcMem := by
  unfold enterMode; split <;> rfl
@[simp] theorem enterMode_params (t : Mode) : (enterMode t s).params = s.params := by
  unfold enterMode; split <;> rfl
@[simp] theorem enterMode_reply (t : Mode) : (enterMode t s).reply = s.reply := by
  unfold enterMode; split <;> rfl
@[simp] theorem enterMode_draws (t : Mode) : (enterMode t s).draws = s.draws := by
  unfold enterMode; split <;> rfl
@[simp] theorem enterMode_drawnEvents (t : Mode) : (enterMode t s).drawnEvents = s.drawnEvents := by
  unfold enterMode; split <;> rfl
@[simp] theorem enterMode_schedule (t : Mode) : (enterMode t s).schedule = s.schedule := by
  unfold enterMode; split <;> rfl
@[simp] theorem enterMode_program (t : Mode) : (enterMode t s).program = s.program := by
  unfold enterMode; split <;> rfl

/-! ### modeEnEffect -/

@[simp] theorem modeEnEffect_geom (a b : Bool) : (modeEnEffect a b s).geom = s.geom := by
  cases a <;> cases b <;> rfl
@[simp] theorem modeEnEffect_pix (a b : Bool) : (modeEnEffect a b s).pix = s.pix := by
  cases a <;> cases b <;> rfl
@[simp] theorem modeEnEffect_pool (a b : Bool) : (modeEnEffect a b s).pool = s.pool := by
  cases a <;> cases b <;> rfl
@[simp] theorem modeEnEffect_source (a b : Bool) : (modeEnEffect a b s).source = s.source := by
  cases a <;> cases b <;> rfl
@[simp] theorem modeEnEffect_spi (a b : Bool) : (modeEnEffect a b s).spi = s.spi := by
  cases a <;> cases b <;> rfl
@[simp] theorem modeEnEffect_deb (a b : Bool) : (modeEnEffect a b s).deb = s.deb := by
  cases a <;> cases b <;> rfl
@[simp] theorem modeEnEffect_cmd (a b : Bool) : (modeEnEffect a b s).cmd = s.cmd := by
  cases a <;> cases b <;> rfl
@[simp] theorem modeEnEffect_err (a b : Bool) : (modeEnEffect a b s).err = s.err := by
  cases a <;> cases b <;> rfl
@[simp] theorem modeEnEffect_rep (a b : Bool) : (modeEnEffect a b s).rep = s.rep := by
  cases a <;> cases b <;> rfl
@[simp] theorem modeEnEffect_cycle (a b : Bool) : (modeEnEffect a b s).cycle = s.cycle := by
  cases a <;> cases b <;> rfl
@[simp] theorem modeEnEffect_fb0 (a b : Bool) : (modeEnEffect a b s).fb0 = s.fb0 := by
  cases a <;> cases b <;> rfl
@[simp] theorem modeEnEffect_fb1 (a b : Bool) : (modeEnEffect a b s).fb1 = s.fb1 := by
  cases a <;> cases b <;> rfl
@[simp] theorem modeEnEffect_srcMem (a b : Bool) : (modeEnEffect a b s).srcMem = s.srcMem := by
  cases a <;> cases b <;> rfl
@[simp] theorem modeEnEffect_params (a b : Bool) : (modeEnEffect a b s).params = s.params := by
  cases a <;> cases b <;> rfl
@[simp] theorem modeEnEffect_reply (a b : Bool) : (modeEnEffect a b s).reply = s.reply := by
  cases a <;> cases b <;> rfl
@[simp] theorem modeEnEffect_draws (a b : Bool) : (modeEnEffect a b s).draws = s.draws := by
  cases a <;> cases b <;> rfl
@[simp] theorem modeEnEffect_drawnEvents (a b : Bool) : (modeEnEffect a b s).drawnEvents = s.drawnEvents := by
  cases a <;> cases b <;> rfl
@[simp] theorem modeEnEffect_schedule (a b : Bool) : (modeEnEffect a b s).schedule = s.schedule := by
  cases a <;> cases b <;> rfl
@[simp] theorem modeEnEffect_program (a b : Bool) : (modeEnEffect a b s).program = s.program := by
  cases a <;> cases b <;> rfl

end Sys2Proof.Machine
end

