-- ==== Sys2Proof/Laws/Ops.lean ====
section
/-! SUPPORT. What each shared operation can do, said once: a proof about a step cites these lemmas and
unfolds none of the operations. -/

namespace Sys2Proof.Machine

/-! ### Memory -/

/-- Storing a framebuffer changes the two framebuffers alone. -/
theorem setFb_eq (s : State) (b : Buf) (m : Memory) :
    s.setFb b m = { s with fb0 := (s.setFb b m).fb0, fb1 := (s.setFb b m).fb1 } := by
  cases b <;> rfl

theorem fb_setFb_same (s : State) (b : Buf) (m : Memory) : (s.setFb b m).fb b = m := by
  cases b <;> rfl

theorem fb_setFb_other (s : State) {b c : Buf} (m : Memory) (h : c ≠ b) :
    (s.setFb b m).fb c = s.fb c := by
  cases b <;> cases c <;> first | rfl | exact absurd rfl h

/-- The frame pass changes the two framebuffers and the count of draws alone. -/
theorem framePass_frame (base : Nat) (k : Buf) (s : State) :
    framePass base k s =
      { s with
        fb0 := (framePass base k s).fb0
        fb1 := (framePass base k s).fb1
        draws := (framePass base k s).draws } := by
  cases k <;> rfl

/-- The memories are in canonical form right after reset, for every choice of the parameters. -/
theorem resetWith_memory_wf (p : Params) :
    (State.resetWith p).fb0.wf ∧ (State.resetWith p).fb1.wf ∧ (State.resetWith p).srcMem.wf :=
  ⟨List.Pairwise.nil, List.Pairwise.nil, List.Pairwise.nil⟩

/-- A byte read draws at most once. -/
theorem Memory.readOrDraw_draws (m : Memory) (a d : Nat) :
    d ≤ (m.readOrDraw a d).2 ∧ (m.readOrDraw a d).2 ≤ d + 1 := by
  unfold Memory.readOrDraw
  split <;> simp

/-- An `n`-byte read draws at most `n` times. -/
theorem Memory.readLanes_draws (m : Memory) (o n d : Nat) :
    d ≤ (m.readLanes o n d).2 ∧ (m.readLanes o n d).2 ≤ d + n := by
  induction n generalizing o d with
  | zero => simp [Memory.readLanes]
  | succ n ih =>
    have h1 := m.readOrDraw_draws o d
    have h2 := ih (o + 1) (m.readOrDraw o d).2
    simp only [Memory.readLanes]
    omega

/-! ### The host port -/

/-- A read answers, and moves the count of draws at most: it changes nothing else (R114), or it is
refused. -/
theorem hostRead_cases (a : Word) (n : Size) (s : State) :
    hostRead a n s = busError a s ∨
      ∃ x d, hostRead a n s = replyOk x { s with draws := d } ∧ s.draws ≤ d ∧ d ≤ s.draws + n.bytes := by
  unfold hostRead
  split
  · exact .inl rfl
  · split
    · exact .inr ⟨_, s.draws, rfl, le_rfl, Nat.le_add_right _ _⟩
    · exact .inr ⟨_, _, rfl, Memory.readLanes_draws _ _ _ _⟩
    · exact .inr ⟨_, _, rfl, Memory.readLanes_draws _ _ _ _⟩
    · exact .inl rfl

/-- What a host write can do: a refusal, the issue of a command word, a register write, a framebuffer
write by the owner of the back buffer, or a source write outside a session. -/
theorem hostWrite_cases (a : Word) (n : Size) (v : Word) (s : State) :
    hostWrite a n v s = .next (busError a s) ∨
    (a = cmdAddr ∧ s.cmd.pending = .none ∧ hostWrite a n v s = issue v s) ∨
    (regionOf a = .reg ∧ a ≠ cmdAddr ∧ regLocked a.toNat v s = false ∧
      hostWrite a n v s = .next (replyOk 0 (writeReg a.toNat v s))) ∨
    (s.pool.owner = .host ∧ ∃ o, hostWrite a n v s =
      .next (replyOk 0 (s.setFb s.back ((s.fb s.back).writeLanes o n.bytes v)))) ∨
    (s.sess.active = false ∧ ∃ o, hostWrite a n v s =
      .next (replyOk 0 { s with srcMem := s.srcMem.writeLanes o n.bytes v })) := by
  unfold hostWrite
  cases hw : writeRefused a n v s
  · rw [if_neg Bool.false_ne_true]
    unfold writeRefused at hw
    cases hr : regionOf a with
    | reg =>
      simp only [hr, Bool.or_eq_false_iff] at hw
      by_cases hc : a = cmdAddr
      · refine .inr (.inl ⟨hc, ?_, by simp [hc]⟩)
        have := hw.2.2
        simpa [hc, cmdAddr, cmdOffset, State.cmdBusy] using this
      · exact .inr (.inr (.inl ⟨rfl, hc, hw.2.1, by simp [hc]⟩))
    | fb b =>
      simp only [hr, Bool.or_eq_false_iff, Bool.not_eq_false', Bool.and_eq_true, beq_iff_eq] at hw
      obtain ⟨ho, rfl⟩ := hw.2
      exact .inr (.inr (.inr (.inl ⟨ho, _, rfl⟩)))
    | src =>
      simp only [hr, Bool.or_eq_false_iff] at hw
      exact .inr (.inr (.inr (.inr ⟨hw.2, _, rfl⟩)))
    | unmapped => simp [hr] at hw
  · exact .inl (if_pos rfl)

/-! ### Commands -/

/-- Every command answers a next state. -/
theorem exec_next (i : Instr) (s : State) : ∃ t, exec i s = .next t := by
  cases i <;> exact ⟨_, rfl⟩

/-- The issue of a word executes the command it decodes to, or reports ILLEGAL (R155, R474). -/
theorem issue_cases (w : Word) (s : State) :
    (∃ i, decode w = .ok i ∧ issue w s = exec i (latchOpcode w s)) ∨
      issue w s = .next (illegalWord (latchOpcode w s)) := by
  unfold issue
  cases h : decode w with
  | ok i => exact .inl ⟨i, rfl, rfl⟩
  | error e => exact .inr rfl

/-- What a START does: an answer alone, or a new session where none is Active, no buffer is owned and no
present runs (R321). -/
theorem startSession_cases (k : Kind) (s : State) :
    (∃ c, c ≠ .ok ∧ c ≠ .pending ∧ startSession k s = complete c 0 s) ∨
    (s.sess.active = false ∧ s.pool.owner = .none ∧ s.spi.busy = false ∧
      (s.fsm.en = true → s.fsm.mode = .camera ∧ k = .stream ∧ s.fsm.switchPending = false) ∧
      startSession k s = complete .ok 0 (sessionBegin k s)) := by
  unfold startSession
  split_ifs with h1 h2 h3
  · exact .inl ⟨_, by decide, by decide, rfl⟩
  · exact .inl ⟨_, by decide, by decide, rfl⟩
  · exact .inl ⟨_, by decide, by decide, rfl⟩
  · simp only [not_or, ne_eq, not_not, Bool.not_eq_true] at h2 h3
    exact .inr ⟨h2, h3.1, h3.2, fun he => not_not.1 fun hk => h1 ⟨he, hk⟩, rfl⟩

/-- What ACQUIRE does (R242). -/
theorem execAcquire_cases (s : State) :
    (∃ c, c ≠ .ok ∧ c ≠ .pending ∧ execAcquire s = .next (complete c 0 s)) ∨
    (s.sess.active = false ∧ s.pool.owner = .none ∧ s.spi.busy = false ∧
      s.fsm.switchPending = false ∧
      execAcquire s = .next (complete .ok s.back.data { s with pool.owner := .host })) := by
  unfold execAcquire
  split_ifs with h1 h2
  · exact .inl ⟨_, by decide, by decide, rfl⟩
  · exact .inl ⟨_, by decide, by decide, rfl⟩
  · simp only [not_or, ne_eq, not_not, Bool.not_eq_true] at h2
    exact .inr ⟨h2.1, h2.2.1, h2.2.2.1, h2.2.2.2, rfl⟩

/-- What COMMIT does (R243). -/
theorem execCommit_cases (s : State) :
    execCommit s = .next (complete .ownerConflict 0 s) ∨
    (s.pool.owner = .host ∧
      execCommit s = .next (pend .commit (spiStart s.pool.front.other .host (commitAndSwap s)))) := by
  unfold execCommit
  split_ifs with h
  · exact .inl rfl
  · exact .inr ⟨not_not.1 h, rfl⟩

/-- What STOP does (R322). -/
theorem execStop_cases (s : State) :
    (∃ c, c ≠ .ok ∧ c ≠ .pending ∧ execStop s = .next (complete c 0 s)) ∨
    (s.fsm.en = false ∧ s.sess.active = true ∧
      execStop s = .next (pend .stop { s with sess.cancel := true })) := by
  unfold execStop
  split_ifs with h1 h2
  · exact .inl ⟨_, by decide, by decide, rfl⟩
  · exact .inl ⟨_, by decide, by decide, rfl⟩
  · exact .inr ⟨by simpa using h1, by simpa using h2, rfl⟩

/-! ### The session -/

/-- The end of a session writes the session, the command result, the error record and the pending
interrupts alone (R335). -/
theorem sessionEnd_frame (r : EndReason) (s : State) :
    sessionEnd r s =
      { s with
        sess := (sessionEnd r s).sess
        cmd := (sessionEnd r s).cmd
        err := (sessionEnd r s).err
        rep.irqPend := (sessionEnd r s).rep.irqPend } := by
  cases r <;> by_cases h : s.cmd.pending = .stop <;>
    simp [sessionEnd, completeStop, recordError, h, completePending, irqSet]

/-- What FETCH.FILE does (R281, R282). -/
theorem fetchFile_cases (s : State) :
    (s.source.filePos.toNat + s.frameSize ≤ s.source.fileLen.toNat ∧
      fetchFile s = workerAcquire { s with
        source.frameBase := s.source.filePos
        source.filePos := BitVec.ofNat 32 (s.source.filePos.toNat + s.frameSize) }) ∨
    (s.frameSize ≤ s.source.fileLen.toNat ∧
      fetchFile s = workerAcquire { s with
        source.frameBase := 0
        source.filePos := BitVec.ofNat 32 s.frameSize }) ∨
    ∃ c, fetchFile s = sessionEnd (.fatal c) s ∧ (c = .closed ∨ c = .shortRead) := by
  unfold fetchFile
  split_ifs with h1 h2
  · exact .inl ⟨h1, rfl⟩
  · exact .inr (.inl ⟨h2, rfl⟩)
  · refine .inr (.inr ⟨_, rfl, ?_⟩)
    unfold fileFailCause
    split <;> simp

/-- The cause of a failed stream fetch is one of the two that R502 lets a rule produce. -/
theorem streamFailCause_cases (s : State) :
    streamFailCause s = .closed ∨ streamFailCause s = .shortRead := by
  unfold streamFailCause
  split_ifs <;> simp

/-- The WORKER step that is enabled tells the phase, and in FETCH the session's kind. -/
theorem workerOp_phase {s : State} {o : WorkerOp} (h : s.workerOp = some o) :
    match o with
    | .top => s.sess.phase = .top
    | .fetchFile => s.sess.phase = .fetch ∧ s.sess.active = true ∧ s.sess.kind = .file
    | .fetchStreamDone =>
      s.sess.phase = .fetch ∧ s.sess.active = true ∧ s.sess.kind = .stream ∧
        s.source.acc.toNat = s.frameSize
    | .fetchStreamFail =>
      s.sess.phase = .fetch ∧ s.sess.active = true ∧ s.sess.kind = .stream ∧
        s.source.streamEnd ≠ .none ∧ s.source.acc.toNat < s.frameSize
    | .convertEnd => s.sess.phase = .convert
    | .presentDone => s.sess.phase = .present ∧ s.spi.busy = false
    | .pace => s.sess.phase = .pace ∧ s.paceDue = true := by
  unfold State.workerOp at h
  split at h
  · simp at h
  · simp at h; subst h; assumption
  · split at h
    · simp at h
    · next hp ha =>
      split at h
      · next hk => simp at h; subst h; simp_all
      · next hk =>
        split_ifs at h with h1 h2
        · simp at h; subst h; simp_all
        · simp at h; subst h; exact ⟨hp, by simpa using ha, hk, h2.1, h2.2⟩
  · simp at h; subst h; assumption
  · split_ifs at h with h1
    simp at h; subst h; exact ⟨by assumption, h1⟩
  · split_ifs at h with h1
    simp at h; subst h; exact ⟨by assumption, h1⟩

/-- What CONVERT.END does where it answers a next state (R245). -/
theorem convertEnd_next {s t : State} (h : convertEnd s = .next t) :
    s.source.frameBase.toNat + s.frameSize ≤ s.params.srcBytes ∧
    2 * s.pixels ≤ s.params.fbBytes ∧
    t = { spiStart s.back .worker (commitAndSwap (framePass s.source.frameBase.toNat s.back s)) with
      sess.phase := .present } := by
  unfold convertEnd at h
  split_ifs at h with h1 h2
  refine ⟨Nat.not_lt.1 h1, Nat.not_lt.1 h2, ?_⟩
  have e : (commitAndSwap (framePass s.source.frameBase.toNat s.back s)).pool.front = s.back := by
    rw [framePass_frame]; rfl
  simp only [e] at h
  injection h with h
  exact h.symm

/-! ### The stream port -/

/-- What a PUSH does where it answers a next state (R284). -/
theorem pushByte_next {s t : State} (h : pushByte s = .next t) :
    t = s ∨
    ∃ x rest, s.source.offered = x :: rest ∧ s.sReady = true ∧
      s.source.acc.toNat < s.params.srcBytes ∧
      t = { s with
        srcMem := s.srcMem.write s.source.acc.toNat x
        source.acc := s.source.acc + 1
        source.offered := rest } := by
  unfold pushByte at h
  split at h
  · injection h with h; exact .inl h.symm
  · next x rest ho =>
    split_ifs at h with h1 h2
    · injection h with h; exact .inr ⟨x, rest, ho, h1, h2, h.symm⟩
    · injection h with h; exact .inl h.symm

/-- A pulse at the port changes the latch alone, and only within a Stream session (R286). -/
theorem endStream_cases (e : StreamEnd) (s : State) :
    endStream e s = s ∨
      (s.sess.active = true ∧ s.sess.kind = .stream ∧ s.source.streamEnd = .none ∧
        endStream e s = { s with source.streamEnd := e }) := by
  unfold endStream
  split_ifs with h
  · exact .inr ⟨h.1, h.2.1, h.2.2, rfl⟩
  · exact .inl rfl

/-! ### The SPI controller -/

/-- What an SPI step does where it answers a next state (R372, R373). -/
theorem spiStep_next {s t : State} (h : spiStep s = .next t) :
    t = s ∨
    (s.spi.busy = true ∧ s.spi.cmdPhase = true ∧ t = spiCommandByte s) ∨
    (s.spi.busy = true ∧ s.spi.cmdPhase = false ∧ s.spi.idx < s.spi.len ∧
      s.spi.idx.toNat < s.params.fbBytes ∧ t = spiPayloadByte s) ∨
    (s.spi.busy = true ∧ s.spi.cmdPhase = false ∧ s.spi.idx = s.spi.len ∧ t = spiEnd s) := by
  unfold spiStep at h
  unfold State.spiOp at h
  cases hb : s.spi.busy
  · rw [if_pos hb] at h; injection h with h; exact .inl h.symm
  · rw [if_neg (by simp [hb])] at h
    cases hc : s.spi.cmdPhase
    · by_cases hi : s.spi.idx < s.spi.len
      · rw [if_pos (.inr hi)] at h
        simp only [spiByte, hc, Bool.false_eq_true, if_false] at h
        split_ifs at h with h5
        injection h with h; exact .inr (.inr (.inl ⟨rfl, rfl, hi, h5, h.symm⟩))
      · rw [if_neg (by simp [hc, hi])] at h
        split_ifs at h with h5
        · injection h with h; exact .inr (.inr (.inr ⟨rfl, rfl, h5, h.symm⟩))
        · injection h with h; exact .inl h.symm
    · rw [if_pos (.inl hc)] at h
      simp only [spiByte, hc, if_true] at h
      injection h with h; exact .inr (.inl ⟨rfl, rfl, h.symm⟩)

/-- The end of a present: the release alone, or with the completion of the COMMIT that started it
(R373). -/
theorem spiEnd_cases (s : State) :
    (s.spi.src = .host ∧ s.cmd.pending = .commit ∧ spiEnd s = completePending (spiRelease s)) ∨
      (¬(s.spi.src = .host ∧ s.cmd.pending = .commit) ∧ spiEnd s = spiRelease s) := by
  unfold spiEnd
  split_ifs with h
  · exact .inl ⟨h.1, h.2, rfl⟩
  · exact .inr ⟨h, rfl⟩

/-! ### The debouncer and the mode-select FSM -/

/-- The debounce step changes the debouncer alone (R401). -/
theorem debounceStep_frame (l : Bool) (s : State) :
    (debounceStep l s).1 = { s with deb := (debounceStep l s).1.deb } := by
  unfold debounceStep
  dsimp only
  split_ifs <;> rfl

/-- The gesture step changes the FSM, and the cancellation flag (R433, R435). -/
theorem gestureStep_frame (w : WindowEnd) (s : State) :
    gestureStep w s =
      { s with fsm := (gestureStep w s).fsm, sess.cancel := (gestureStep w s).sess.cancel } := by
  unfold gestureStep
  split_ifs
  · rfl
  · have hd : gestureDown w s =
        { s with fsm := (gestureDown w s).fsm, sess.cancel := (gestureDown w s).sess.cancel } := by
      unfold gestureDown gestureRelease
      split_ifs <;> rfl
    cases s.fsm.gesture
    · show gestureIdle w s = _
      unfold gestureIdle
      split_ifs <;> rfl
    · exact hd
    · exact hd

/-- The dwell step changes the FSM, and the cancellation flag (R438, R435). -/
theorem dwellStep_frame (s : State) :
    dwellStep s =
      { s with fsm := (dwellStep s).fsm, sess.cancel := (dwellStep s).sess.cancel } := by
  unfold dwellStep
  split_ifs
  · dsimp only
    split_ifs <;> rfl
  · rfl

/-- A TICK changes the debouncer, the FSM, the cancellation flag and CYCLE (R17). -/
theorem tickStep_frame (b : Bool) (s : State) :
    tickStep b s =
      { s with
        deb := (tickStep b s).deb
        fsm := (tickStep b s).fsm
        sess.cancel := (tickStep b s).sess.cancel
        cycle := s.cycle + 1 } := by
  have hd := debounceStep_frame s.deb.sync2 (synchronise b s)
  unfold tickStep
  dsimp only
  cases h : (debounceStep s.deb.sync2 (synchronise b s)).2 with
  | none =>
    dsimp only
    rw [dwellStep_frame, hd]
    rfl
  | some w =>
    dsimp only
    rw [dwellStep_frame, gestureStep_frame, hd]
    rfl

/-- A MODESW step without its guard does nothing; with it, the switch completes (R436). -/
theorem modeswStep_cases (s : State) :
    modeswStep s = s ∨
    (s.fsm.switchPending = true ∧ s.sess.active = false ∧ s.pool.owner = .none ∧
      s.spi.busy = false ∧ modeswStep s = switchComplete s) := by
  unfold modeswStep
  split_ifs with h
  · simp only [State.switchReady, Bool.and_eq_true, Bool.not_eq_true', beq_iff_eq] at h
    exact .inr ⟨h.1.1.1, h.1.1.2, h.1.2, h.2, rfl⟩
  · exact .inl rfl

/-- A write to CTRL with its side effects writes the FSM, UV_SWAP and the cancellation flag (R440). -/
theorem writeCtrl_frame (v : Word) (s : State) :
    writeCtrl v s =
      { s with
        fsm := (writeCtrl v s).fsm
        geom.uvSwap := v.getLsbD 1
        sess.cancel := (writeCtrl v s).sess.cancel } := by
  unfold writeCtrl modeEnEffect
  split <;> rfl

/-- A write of a register changes the configuration fields, the debouncer's window, the FSM, the
cancellation flag and the interrupt bits alone (R32, R403, R440, R511). -/
theorem writeReg_frame (o : Nat) (v : Word) (s : State) :
    writeReg o v s =
      { s with
        geom := (writeReg o v s).geom
        source.fileLen := (writeReg o v s).source.fileLen
        sess.framePeriod := (writeReg o v s).sess.framePeriod
        sess.cancel := (writeReg o v s).sess.cancel
        spi.div := (writeReg o v s).spi.div
        spi.cmdEn := (writeReg o v s).spi.cmdEn
        spi.cmdByte := (writeReg o v s).spi.cmdByte
        deb := (writeReg o v s).deb
        fsm := (writeReg o v s).fsm
        rep.irqPend := (writeReg o v s).rep.irqPend
        rep.irqEn := (writeReg o v s).rep.irqEn } := by
  unfold writeReg
  split
  · rw [writeCtrl_frame]
  · rfl
  · rfl
  · unfold writeWidth; split <;> rfl
  · unfold writeHeight; split <;> rfl
  · rfl
  · unfold writeFileLen; split <;> rfl
  · unfold writeDebInterval; split <;> rfl
  · unfold writeDebCount; split <;> rfl
  · unfold writeHoldMin; split <;> rfl
  · rfl
  · unfold writeSpiCtrl; split <;> rfl
  · rfl

/-- The flag is set by a switch request within a session, and else kept. -/
theorem switchRequest_cancel (m : Mode) (s : State) :
    (switchRequest m s).sess.cancel = s.sess.cancel ∨
      (s.sess.active = true ∧ (switchRequest m s).sess.cancel = true) := by
  cases h : s.sess.active <;> simp [switchRequest, h]

/-- A write of CTRL cancels an Active session at most (R440). -/
theorem writeCtrl_cancel (v : Word) (s : State) :
    (writeCtrl v s).sess.cancel = s.sess.cancel ∨
      (s.sess.active = true ∧ (writeCtrl v s).sess.cancel = true) := by
  unfold writeCtrl modeEnEffect
  split
  · exact switchRequest_cancel .navigation { s with fsm.en := v.getLsbD 0, geom.uvSwap := v.getLsbD 1 }
  · exact .inl rfl
  · exact .inl rfl

theorem gestureStep_cancel (w : WindowEnd) (s : State) :
    (gestureStep w s).sess.cancel = s.sess.cancel ∨
      (s.sess.active = true ∧ (gestureStep w s).sess.cancel = true) := by
  unfold gestureStep
  split_ifs
  · exact .inl rfl
  · have hd : (gestureDown w s).sess.cancel = s.sess.cancel ∨
        (s.sess.active = true ∧ (gestureDown w s).sess.cancel = true) := by
      unfold gestureDown gestureRelease
      split_ifs
      · exact .inl rfl
      · exact switchRequest_cancel s.fsm.mode.other { s with fsm.gesture := .idle, fsm.holdCnt := 0 }
      · exact .inl rfl
    cases s.fsm.gesture
    · show (gestureIdle w s).sess.cancel = _ ∨ (_ ∧ (gestureIdle w s).sess.cancel = true)
      unfold gestureIdle
      split_ifs <;> exact .inl rfl
    · exact hd
    · exact hd

theorem dwellStep_cancel (s : State) :
    (dwellStep s).sess.cancel = s.sess.cancel ∨
      (s.sess.active = true ∧ (dwellStep s).sess.cancel = true) := by
  unfold dwellStep
  split_ifs
  · dsimp only
    split_ifs
    · exact switchRequest_cancel .navigation { s with fsm.dwell := bumpDwell s.fsm.dwell }
    · exact .inl rfl
  · exact .inl rfl

/-- A TICK cancels an Active session at most, and clears no cancellation (R435). -/
theorem tickStep_cancel (b : Bool) (s : State) :
    (tickStep b s).sess.cancel = s.sess.cancel ∨
      (s.sess.active = true ∧ (tickStep b s).sess.cancel = true) := by
  have hd := debounceStep_frame s.deb.sync2 (synchronise b s)
  generalize hu : (debounceStep s.deb.sync2 (synchronise b s)).1 = u at hd
  have hc : u.sess.cancel = s.sess.cancel := by rw [hd]; rfl
  have ha : u.sess.active = s.sess.active := by rw [hd]; rfl
  unfold tickStep
  dsimp only
  rw [hu]
  split
  · next w _ =>
    have hg : (gestureStep w u).sess.active = u.sess.active := by rw [gestureStep_frame]
    have h1 := gestureStep_cancel w u
    have h2 := dwellStep_cancel (gestureStep w u)
    rw [hg, ha] at h2
    rw [hc, ha] at h1
    rcases h2 with h2 | h2
    · rw [h2]; exact h1
    · exact .inr h2
  · have h2 := dwellStep_cancel u
    rw [hc, ha] at h2
    exact h2

/-! ### One step -/

/-- A step is the step of one event, at the state without it. -/
theorem step_of_schedule {s : State} {e : Event} {rest : List Event} (h : s.schedule = e :: rest) :
    step s = runEvent e { s with schedule := rest } := by
  unfold step takeEvent
  rw [h]

theorem step_of_no_schedule {s : State} (h : s.schedule = []) :
    step s = runEvent s.drawEvent
      { s with drawnEvents := s.drawnEvents + 1 } := by
  unfold step takeEvent
  rw [h]

/-- Taking the next event changes the schedule and the count of drawn events alone. -/
theorem takeEvent_frame (s : State) :
    (takeEvent s).2 =
      { s with schedule := (takeEvent s).2.schedule, drawnEvents := (takeEvent s).2.drawnEvents } := by
  unfold takeEvent
  split <;> rfl

/-- What a turn of the host does with its program (R159): nothing but move on in it and schedule an
event, one read and then perhaps a move on, or one transaction, moved on. -/
theorem programStep_cases (s : State) :
    (∃ p sch, programStep s = .next { s with program := p, schedule := sch }) ∨
    (∃ a m v rest, s.program = .poll a m v :: rest ∧
      ((hostRead a .b4 s).readData &&& m = v ∧
          programStep s = .next { hostRead a .b4 s with program := rest } ∨
        (hostRead a .b4 s).readData &&& m ≠ v ∧ programStep s = .next (hostRead a .b4 s))) ∨
    ∃ op p, programStep s = hostStep op { s with program := p } := by
  unfold programStep
  split
  · exact .inl ⟨s.program, s.schedule, rfl⟩
  iterate 6 exact .inr (.inr ⟨_, _, rfl⟩)
  · next h =>
    refine .inr (.inl ⟨_, _, _, _, h, ?_⟩)
    unfold pollStep
    dsimp only
    split_ifs with hm
    · exact .inl ⟨hm, rfl⟩
    · exact .inr ⟨hm, rfl⟩
  · exact .inl ⟨_, _, rfl⟩

/-- A drawn event is the environment's own, or the turn of a host that has a program. -/
theorem drawEvent_cases (s : State) :
    s.drawEvent = Config.environment s.drawnEvents ∨ (s.drawEvent = .program ∧ s.program ≠ []) := by
  unfold State.drawEvent
  split
  · next h => exact .inr ⟨rfl, by simp [h]⟩
  · exact .inl rfl

/-- An invariant that no schedule and no host program can break is kept by every step, if every agent's
step keeps it. -/
theorem step_invariant (P : State → Prop)
    (env : ∀ (s : State) sch dr p, P s →
      P { s with schedule := sch, drawnEvents := dr, program := p })
    (read : ∀ (s : State) (a : Word) (n : Size), P s → P (hostRead a n s))
    (tick : ∀ (s : State) b, P s → P (tickStep b s))
    (write : ∀ (s t : State) (a : Word) (n : Size) (v : Word), P s → hostWrite a n v s = .next t → P t)
    (worker : ∀ s t : State, P s → workerStep s = .next t → P t)
    (spi : ∀ s t : State, P s → spiStep s = .next t → P t)
    (modesw : ∀ s : State, P s → P (modeswStep s))
    (producer : ∀ (s t : State) (a : ProducerAct), P s → producerStep a s = .next t → P t)
    (reset : ∀ s : State, P s → P (resetStep s)) :
    ∀ s t : State, P s → step s = .next t → P t := by
  have host : ∀ (s t : State) op, P s → hostStep op s = .next t → P t := by
    intro s t op hs h
    cases op with
    | read a n => injection h with h; exact h ▸ read _ _ _ hs
    | write a n v => exact write _ _ _ _ _ hs h
  intro s t hs h
  have h0 : P (takeEvent s).2 := by rw [takeEvent_frame]; exact env _ _ _ _ hs
  unfold step at h
  generalize (takeEvent s).2 = u at h0 h
  generalize (takeEvent s).1 = ev at h
  cases ev with
  | tick b => injection h with h; exact h ▸ tick _ _ h0
  | host op => exact host _ _ op h0 h
  | program =>
    have e := programStep_cases u
    rw [show runEvent .program u = programStep u from rfl] at h
    rcases e with ⟨p, sch, e⟩ | ⟨a, m, v, rest, -, ⟨-, e⟩ | ⟨-, e⟩⟩ | ⟨op, p, e⟩ <;> rw [e] at h
    · injection h with h; exact h ▸ env _ _ u.drawnEvents _ h0
    · injection h with h; exact h ▸ env _ _ _ _ (read _ _ _ h0)
    · injection h with h; exact h ▸ read _ _ _ h0
    · exact host _ _ op (env _ _ _ _ h0) h
  | worker => exact worker _ _ h0 h
  | spi => exact spi _ _ h0 h
  | modesw => injection h with h; exact h ▸ modesw _ h0
  | producer a => exact producer _ _ _ h0 h
  | reset => injection h with h; exact h ▸ reset _ h0

end Sys2Proof.Machine
end

