-- ==== Sys2Proof/Laws/PerInstr.lean ====
section
/-! SUPPORT. Statements about every command, one lemma per constructor of `Instr`. -/

namespace Sys2Proof.Laws.TableRow

/-- The mask of the command's row in the opcode table (R153). -/
def rowMask : Instr → Word
  | .nop => 0xFFFFFFFF#32
  | .convertPixel _ _ _ => 0xFF000000#32
  | .startFile => 0xFFFFFFFF#32
  | .startStream => 0xFFFFFFFF#32
  | .stop => 0xFFFFFFFF#32
  | .acquire => 0xFFFFFFFF#32
  | .commit => 0xFFFFFFFF#32
  | .clearErr => 0xFFFFFFFF#32

/-- The match value of the command's row in the opcode table (R153). -/
def rowMatch : Instr → Word
  | .nop => 0x00000000#32
  | .convertPixel _ _ _ => 0x01000000#32
  | .startFile => 0x02000000#32
  | .startStream => 0x02000001#32
  | .stop => 0x03000000#32
  | .acquire => 0x04000000#32
  | .commit => 0x05000000#32
  | .clearErr => 0x06000000#32

/-- The command's word lies in its own row of the opcode table: `(w AND mask) = match` (R153). -/
def Statement (i : Instr) : Prop := encode i &&& rowMask i = rowMatch i

theorem nop : Statement .nop := by unfold Statement; decide

theorem convertPixel (y u v : Nat) : Statement (.convertPixel y u v) := by
  show (0x01#8 ++ BitVec.ofNat 8 v ++ BitVec.ofNat 8 u ++ BitVec.ofNat 8 y)
      &&& (0xFF#8 ++ 0#8 ++ 0#8 ++ 0#8) = 0x01000000#32
  rw [BitVec.and_append, BitVec.and_append, BitVec.and_append]
  simp only [BitVec.and_zero]
  decide

theorem startFile : Statement .startFile := by unfold Statement; decide

theorem startStream : Statement .startStream := by unfold Statement; decide

theorem stop : Statement .stop := by unfold Statement; decide

theorem acquire : Statement .acquire := by unfold Statement; decide

theorem commit : Statement .commit := by unfold Statement; decide

theorem clearErr : Statement .clearErr := by unfold Statement; decide

end Sys2Proof.Laws.TableRow
end

