-- ==== Sys2Proof/Tests/Slice0.lean ====
section
/-! SUPPORT. Tests: the spec's own vectors (95_test_vectors.md) on one step each, and a state that meets
the hypotheses of each statement that has some. -/

namespace Sys2Proof.Tests

open Sys2Proof.Machine

/-! ### Helpers -/

/-- The parameters of a small legal instance: 4 x 4 pixels, 64 bytes of source memory. -/
def smallParams : Params := ⟨4, 4, 64, 5, 1⟩

theorem test_smallParams_legal : smallParams.legal := by decide

/-- The small instance right after reset. -/
def fresh : State := State.resetWith smallParams

/-- The small instance with a 2 x 2 display. -/
def tiny : State := { fresh with geom := ⟨2, 2, false⟩ }

/-- A check on the next state; a stop fails it. -/
def gives (o : Host.Outcome State Fault Refusal) (p : State → Bool) : Bool :=
  match o with
  | .next t => p t
  | .fault _ => false
  | .refused _ => false

/-- `CMD_RESULT` after the host writes the word to `CMD`. -/
def resultOf (w : Word) (s : State) (r : Word) : Bool :=
  gives (hostWrite 0x0000000C#32 .b4 w s) fun t => t.cmdResultWord == r

/-- A host read's response and data. -/
def reads (a : Word) (n : Size) (s : State) (d : Word) : Bool :=
  (hostRead a n s).reply == some ⟨.ok, d⟩

/-- A host read is refused. -/
def readFails (a : Word) (n : Size) (s : State) : Bool :=
  (hostRead a n s).reply == some ⟨.err, 0#32⟩

/-- A host write is refused. -/
def writeFails (a : Word) (n : Size) (v : Word) (s : State) : Bool :=
  gives (hostWrite a n v s) fun t => t.reply == some ⟨.err, 0#32⟩

/-! ### Well-formedness: each check refuses an ill-formed term -/

theorem test_wf_refuses_y : (Instr.convertPixel 256 0 0).wf = false := by decide
theorem test_wf_refuses_u : (Instr.convertPixel 0 256 0).wf = false := by decide
theorem test_wf_refuses_v : (Instr.convertPixel 0 0 256).wf = false := by decide
theorem test_wf_accepts_255 : (Instr.convertPixel 255 255 255).wf = true := by decide

/-! ### Decoding: words written out from R150, R151 and R153 (95 §2.1, §2.3) -/

theorem test_decode_nop : decode 0b00000000_000000000000000000000000#32 = .ok .nop := by decide
theorem test_decode_convertPixel :
    decode 0b00000001_11110000_01011010_01010001#32 = .ok (.convertPixel 81 90 240) := by decide
theorem test_decode_startFile :
    decode 0b00000010_00000000000000000000000_0#32 = .ok .startFile := by decide
theorem test_decode_startStream :
    decode 0b00000010_00000000000000000000000_1#32 = .ok .startStream := by decide
theorem test_decode_stop : decode 0b00000011_000000000000000000000000#32 = .ok .stop := by decide
theorem test_decode_acquire :
    decode 0b00000100_000000000000000000000000#32 = .ok .acquire := by decide
theorem test_decode_commit :
    decode 0b00000101_000000000000000000000000#32 = .ok .commit := by decide
theorem test_decode_clearErr :
    decode 0b00000110_000000000000000000000000#32 = .ok .clearErr := by decide

theorem test_decode_illegal_nop : decode 0x00000001#32 = .error (.reservedOperand 0x00#8) := by decide
theorem test_decode_illegal_start_bit1 :
    decode 0x02000002#32 = .error (.reservedOperand 0x02#8) := by decide
theorem test_decode_illegal_start_bit23 :
    decode 0x02800001#32 = .error (.reservedOperand 0x02#8) := by decide
theorem test_decode_illegal_stop : decode 0x03000100#32 = .error (.reservedOperand 0x03#8) := by decide
theorem test_decode_illegal_commit :
    decode 0x05000001#32 = .error (.reservedOperand 0x05#8) := by decide
theorem test_decode_illegal_07 : decode 0x07000000#32 = .error (.reservedOpcode 0x07#8) := by decide
theorem test_decode_illegal_ff : decode 0xFFFFFFFF#32 = .error (.reservedOpcode 0xFF#8) := by decide
theorem test_decode_wrong_length : decodeBytes [0x00#8, 0x00#8] = .error .notOneWord := by decide
theorem test_decodeTableWord : decodeTableWord 32 0x018080EB = some (.convertPixel 235 128 128) := by
  decide

/-! ### The commands: CMD_RESULT and effect (95 §2.3, §2.4, §2.6, §2.11) -/

theorem test_nop_result : resultOf 0x00000000#32 fresh 0x00000000#32 = true := by decide
theorem test_convertPixel_red :
    gives (exec (.convertPixel 81 90 240) fresh) (fun t =>
      t.pixRgbWord == 0x000000FF#32 && t.pix.packed == 0xF800#16) = true := by decide
theorem test_convertPixel_three_parts :
    gives (exec (.convertPixel 235 0 0) fresh) (fun t =>
      t.pixRgbWord == 0x0000FF32#32 && t.pix.packed == 0x37E0#16) = true := by decide
theorem test_startFile_from_reset :
    gives (hostWrite 0x0000000C#32 .b4 0x02000000#32 fresh) (fun t =>
      t.cmdResultWord == 0x00020000#32 && t.sess.active && t.sess.phase == .top) = true := by decide
theorem test_startFile_mode_owned_before_active :
    resultOf 0x02000000#32 { fresh with fsm.en := true, sess.active := true } 0x00020005#32 = true := by
  decide
theorem test_startStream_in_camera :
    gives (exec .startStream { fresh with fsm.en := true, fsm.mode := .camera }) (fun t =>
      t.sess.active && t.sess.kind == .stream) = true := by decide
theorem test_startStream_while_active :
    resultOf 0x02000001#32 { fresh with sess.active := true } 0x00020001#32 = true := by decide
theorem test_stop_inactive : resultOf 0x03000000#32 fresh 0x00030002#32 = true := by decide
theorem test_stop_active :
    gives (hostWrite 0x0000000C#32 .b4 0x03000000#32 { fresh with sess.active := true }) (fun t =>
      t.cmdResultWord == 0x000300FF#32 && t.cmdBusy && t.sess.cancel) = true := by decide
theorem test_acquire_from_reset :
    gives (hostWrite 0x0000000C#32 .b4 0x04000000#32 fresh) (fun t =>
      t.cmdResultWord == 0x00040100#32 && t.pool.owner == .host) = true := by decide
theorem test_acquire_front_one :
    resultOf 0x04000000#32 { fresh with pool.front := .fb1 } 0x00040000#32 = true := by decide
theorem test_commit_without_buffer : resultOf 0x05000000#32 fresh 0x00050003#32 = true := by decide
theorem test_commit_presents :
    gives (hostWrite 0x0000000C#32 .b4 0x05000000#32 { fresh with pool.owner := .host }) (fun t =>
      t.cmdResultWord == 0x000500FF#32 && t.pool == ⟨.fb1, .none⟩ && t.spi.busy &&
        t.spi.buf == .fb1 && !t.spi.csN && t.spi.len == 32#32) = true := by decide
theorem test_clearErr :
    gives (hostWrite 0x0000000C#32 .b4 0x06000000#32
        { fresh with err := ⟨.closed, true, .file⟩ }) (fun t =>
      t.cmdResultWord == 0x00060000#32 && t.errWord == 0#32) = true := by decide
theorem test_illegal_word : resultOf 0x07000000#32 fresh 0x00070004#32 = true := by decide

/-- The word placed for the next fetch is issued by the next step, from the block's own reset state. -/
theorem test_placed_command_runs :
    gives (step (State.reset.withFetchWord 32 0x04000000)) (fun t =>
      t.cmdResultWord == 0x00040100#32 && t.pool.owner == .host) = true := by decide

/-! ### Host programs: WAITCMD and the statement after it (R159, R160, 95 P2) -/

/-- The host's program of P2 from WAITCMD on, with a COMMIT pending: the read after the POLL does not run
at the host's next two turns. -/
theorem test_poll_holds_the_program :
    gives (runEvents [.program, .program]
        { fresh with
          cmd.pending := .commit, cmd.code := .pending
          program := [.waitCmd, .rd 0x00000010#32] }) (fun t =>
      t.program == [.waitCmd, .rd 0x00000010#32] && t.reply == some ⟨.ok, 0x00020008#32⟩) = true := by
  decide

/-- The same program once the COMMIT has ended: one turn for the POLL, one for the read. -/
theorem test_poll_lets_the_program_go_on :
    gives (runEvents [.program, .program]
        { fresh with cmd.opcode := 5#8, program := [.waitCmd, .rd 0x00000010#32] }) (fun t =>
      t.program == [] && t.reply == some ⟨.ok, 0x00050000#32⟩) = true := by decide

/-! ### The host port and the registers (95 §2.12) -/

theorem test_read_id : reads 0x00000000#32 .b4 fresh 0xD0170001#32 = true := by decide
theorem test_read_status : reads 0x00000008#32 .b4 fresh 0x00020000#32 = true := by decide
theorem test_read_button : reads 0x00000060#32 .b4 fresh 0x00000006#32 = true := by decide
theorem test_read_halfword_of_register : readFails 0x00000000#32 .b2 fresh = true := by decide
theorem test_read_unmapped : readFails 0x00001000#32 .b4 fresh = true := by decide
theorem test_read_beyond_fb : readFails 0x01000020#32 .b4 fresh = true := by decide
theorem test_read_misaligned_src : readFails 0x04000002#32 .b4 fresh = true := by decide
theorem test_read_painted_buffer :
    readFails 0x02000000#32 .b4 { fresh with pool.owner := .worker } = true := by decide
theorem test_write_front_buffer :
    writeFails 0x01000000#32 .b1 0#32 { fresh with pool.owner := .host } = true := by decide
theorem test_write_src_lanes :
    gives (hostWrite 0x04000000#32 .b4 0x44332211#32 fresh) (fun t =>
      t.srcMem == [(0, 0x11#8), (1, 0x22#8), (2, 0x33#8), (3, 0x44#8)] &&
        reads 0x04000002#32 .b2 t 0x00004433#32) = true := by decide
theorem test_write_busy_cmd :
    writeFails 0x0000000C#32 .b4 0#32 { fresh with cmd.pending := .stop } = true := by decide
theorem test_write_locked_width :
    writeFails 0x00000020#32 .b4 4#32 { fresh with sess.active := true } = true := by decide
theorem test_write_width_ignores_reserved :
    gives (hostWrite 0x00000020#32 .b4 0x00010002#32 fresh) (fun t => t.geom.width == 2#16) = true := by
  decide
theorem test_write_width_odd :
    gives (hostWrite 0x00000020#32 .b4 3#32 fresh) (fun t => t.geom.width == 4#16) = true := by decide
theorem test_write_uv_swap_locked :
    writeFails 0x00000004#32 .b4 2#32 { fresh with sess.active := true } = true := by decide
theorem test_irq_level :
    State.irq { fresh with rep.irqPend := 0b01000#5, rep.irqEn := 0b01000#5 } = true := by decide

/-! ### The agents (95 §2.2, §2.5, §2.7, §2.9, §2.10) -/

/-- 95 §2.2: one frame of 4 x 2 pixels, painted by CONVERT.END. -/
theorem test_frame_pass :
    (framePass 0 .fb1 { fresh with
      geom := ⟨4, 2, false⟩
      srcMem := [(0, 0xEB#8), (1, 0x10#8), (2, 0xEB#8), (3, 0x10#8), (4, 0x10#8), (5, 0xEB#8),
        (6, 0x10#8), (7, 0xEB#8), (8, 0x80#8), (9, 0x5A#8), (10, 0x80#8), (11, 0xF0#8)] }).fb1.map
        Prod.snd =
      [0xFF#8, 0xFF#8, 0x00#8, 0x00#8, 0xFD#8, 0x96#8, 0xB0#8, 0x00#8,
       0x00#8, 0x00#8, 0xFF#8, 0xFF#8, 0xB0#8, 0x00#8, 0xFD#8, 0x96#8] := by decide

theorem test_pack565 : pack565 ⟨0x12#8, 0x34#8, 0x56#8⟩ = 0x11AA#16 := by decide

theorem test_fetch_file_rewinds :
    (fetchFile { tiny with source.fileLen := 15#32, source.filePos := 12#32 }).source.filePos = 6#32 := by
  decide
theorem test_fetch_file_empty :
    (fetchFile { tiny with sess.active := true, sess.phase := .fetch }).errWord = 0x00000103#32 := by
  decide
theorem test_fetch_stream_short :
    (fetchStreamFail { tiny with
      sess.active := true, sess.kind := .stream, sess.phase := .fetch, sess.firstFrameDone := true
      source.streamEnd := .closed, source.acc := 3#32 }).errWord = 0x00000202#32 := by decide
theorem test_pace_across_wrap :
    State.paceDue { fresh with
      sess.t0 := 0xFFFFFFF0#32, sess.framePeriod := 0x60#31, cycle := 0x00000050#32 } = true := by
  decide
theorem test_pace_waits_across_wrap :
    State.paceDue { fresh with
      sess.t0 := 0xFFFFFFF0#32, sess.framePeriod := 0x60#31, cycle := 0x00000040#32 } = false := by
  decide
/-- 95 §2.7: mosi on the rising edges of byte 0xF8. -/
theorem test_spi_wave :
    ((byteWave 1 0xF8#8).filter (·.sclk)).map (·.mosi) =
      [true, true, true, true, true, false, false, false] := by decide
theorem test_debounce_high :
    (debounceStep true { fresh with deb.count := 1#8 }).2 = some ⟨.high, .none⟩ := by decide
theorem test_gesture_confirms :
    (gestureStep ⟨.low, .high⟩ { fresh with
      fsm.en := true, fsm.gesture := .pressed, fsm.holdCnt := 1#8 }).fsm.switchTarget = .camera := by
  decide
theorem test_gesture_short_press :
    (gestureStep ⟨.low, .high⟩ { fresh with
      fsm.en := true, fsm.gesture := .pressed, fsm.holdCnt := 1#8
      fsm.holdMin := 2#8 }).fsm.switchPending = false := by decide
theorem test_dwell_expires :
    (dwellStep { fresh with
      fsm.en := true, fsm.mode := .camera, fsm.dwell := 2#32
      fsm.dwellMax := 3#32 }).fsm.switchPending = true := by decide
theorem test_switch_to_camera :
    (fun t : State => t.fsm.mode == .camera && t.irqPending .modeChange && t.sess.active &&
        t.sess.kind == .stream && t.sess.phase == .top)
      (modeswStep { fresh with
        fsm.en := true, fsm.switchPending := true, fsm.switchTarget := .camera }) = true := by decide

/-! ### Witnesses: states and operands that meet the hypotheses of the statements -/

/-- A File session in the given phase. -/
def inSession (p : WPhase) : State :=
  { tiny with sess.active := true, sess.phase := p, source.fileLen := 12#32 }

/-- A Stream session in the given phase. -/
def inStream (p : WPhase) : State :=
  { tiny with sess.active := true, sess.kind := .stream, sess.phase := p }

/-- The host holds the back buffer. -/
def hostHolds : State := { tiny with pool.owner := .host }

/-- A present of the host's is in progress, and its COMMIT is pending. -/
def presenting : State :=
  { tiny with
    pool := ⟨.fb1, .none⟩
    spi.busy := true, spi.csN := false, spi.src := .host, spi.buf := .fb1, spi.len := 8#32
    cmd.pending := .commit, cmd.code := .pending }

/-- The FSM runs, in Camera mode. -/
def inCamera : State := { tiny with fsm.en := true, fsm.mode := .camera }

/-- The FSM runs, with a gesture under way for two windows. -/
def holding : State := { tiny with fsm.en := true, fsm.gesture := .held, fsm.holdCnt := 2#8 }

/-- The state with the given event next. -/
def next (e : Event) (s : State) : State := { s with schedule := [e] }

theorem witness_DecodeOfEncode :
    (Instr.convertPixel 255 0 255).wf = true ∧ (Instr.convertPixel 0 255 0).wf = true ∧
      Instr.commit.wf = true := by decide

theorem witness_EncodeOfDecode : decode 0x02000001#32 = .ok .startStream := by decide

/-- One word for each row, and an illegal one for each clause of DecodeFollowsTheOpcodeMap. -/
theorem witness_DecodeFollowsTheOpcodeMap :
    0x00000000#32 &&& 0xFFFFFFFF#32 = 0x00000000#32 ∧ 0x01FF00FF#32 &&& 0xFF000000#32 = 0x01000000#32 ∧
    0x02000000#32 &&& 0xFFFFFFFF#32 = 0x02000000#32 ∧ 0x02000001#32 &&& 0xFFFFFFFF#32 = 0x02000001#32 ∧
    0x03000000#32 &&& 0xFFFFFFFF#32 = 0x03000000#32 ∧ 0x04000000#32 &&& 0xFFFFFFFF#32 = 0x04000000#32 ∧
    0x05000000#32 &&& 0xFFFFFFFF#32 = 0x05000000#32 ∧ 0x06000000#32 &&& 0xFFFFFFFF#32 = 0x06000000#32 ∧
    0x07#8 ≤ (0x07000000#32).extractLsb' 24 8 ∧
    ((0x06000001#32).extractLsb' 24 8 ≤ 0x06#8 ∧ (0x06000001#32).extractLsb' 0 24 ≠ 0#24) ∧
    ((0x02000002#32).extractLsb' 24 8 = 0x02#8 ∧ (0x02000002#32).extractLsb' 1 23 ≠ 0#23) := by decide

theorem witness_StepExecutesDecodedCommand :
    let w := 0x04000000#32
    let x := 0x07000000#32
    (next (.host (.write 0x0000000C#32 .b4 w)) fresh).schedule = .host (.write 0x0000000C#32 .b4 w) :: [] ∧
    (next (.host (.write 0x0000000C#32 .b4 w)) fresh).cmd.pending = .none ∧
    decode w = .ok .acquire ∧
    (next (.host (.write 0x0000000C#32 .b4 x)) fresh).schedule = .host (.write 0x0000000C#32 .b4 x) :: [] ∧
    decode x = .error (.reservedOpcode 0x07#8) ∧
    (next .program { fresh with program := [.wr 0x0000000C#32 w] }).schedule = .program :: [] ∧
    (next .program { fresh with program := [.wr 0x0000000C#32 w] }).program =
      .wr 0x0000000C#32 w :: [] := by decide

theorem witness_IllegalWordIsAnswered :
    decode 0x02000002#32 = .error (.reservedOperand 0x02#8) ∧ fresh.cmd.pending = .none ∧
      presenting.cmd.pending ≠ .none := by decide

theorem witness_BusyCommandPortRefuses : presenting.cmd.pending ≠ .none := by decide

theorem witness_NopReportsOk : (1#24 : BitVec 24) ≠ 0#24 := by decide

theorem witness_ClearErrClearsTheRecord : (0x800000#24 : BitVec 24) ≠ 0#24 := by decide

/-- The clauses of AcquireTakesTheBackBuffer: owned; a session, an acquired buffer, a present and a pending
switch; none of them. -/
theorem witness_AcquireTakesTheBackBuffer :
    (1#24 : BitVec 24) ≠ 0#24 ∧
    (inCamera.fsm.en = true ∧ inCamera.fsm.mode = .camera) ∧
    ¬((inSession .top).fsm.en = true ∧ (inSession .top).fsm.mode = .camera) ∧
    (inSession .top).sess.active = true ∧
    ¬(hostHolds.fsm.en = true ∧ hostHolds.fsm.mode = .camera) ∧ hostHolds.pool.owner ≠ .none ∧
    ¬(presenting.fsm.en = true ∧ presenting.fsm.mode = .camera) ∧ presenting.spi.busy = true ∧
    ({ holding with fsm.switchPending := true } : State).fsm.mode ≠ .camera ∧
    ¬(fresh.fsm.en = true ∧ fresh.fsm.mode = .camera) ∧
    ¬(fresh.sess.active = true ∨ fresh.pool.owner ≠ .none ∨ fresh.spi.busy = true ∨
      fresh.fsm.switchPending = true) := by decide

theorem witness_CommitSwapsAndPresents :
    hostHolds.pool.owner = .host ∧ fresh.pool.owner ≠ .host := by decide

/-- The clauses of StartBeginsASession, the File kind's and then the Stream kind's, in their order. -/
theorem witness_StartBeginsASession :
    (2#24 : BitVec 24).extractLsb' 1 23 ≠ 0#23 ∧
    holding.fsm.en = true ∧
    ((inSession .top).fsm.en = false ∧ (inSession .top).sess.active = true) ∧
    (hostHolds.fsm.en = false ∧ hostHolds.sess.active = false ∧ hostHolds.pool.owner ≠ .none) ∧
    (presenting.fsm.en = false ∧ presenting.sess.active = false ∧ presenting.spi.busy = true) ∧
    (fresh.fsm.en = false ∧ fresh.sess.active = false ∧
      ¬(fresh.pool.owner ≠ .none ∨ fresh.spi.busy = true)) ∧
    ¬(holding.fsm.mode = .camera ∧ holding.fsm.switchPending = false) ∧
    (inCamera.fsm.en = true ∧ inCamera.fsm.mode = .camera ∧ inCamera.fsm.switchPending = false) ∧
    ({ inCamera with sess.active := true } : State).sess.active = true ∧
    (inCamera.sess.active = false ∧ ({ inCamera with spi.busy := true } : State).spi.busy = true) ∧
    ¬(inCamera.pool.owner ≠ .none ∨ inCamera.spi.busy = true) := by decide

/-- The clauses of StopCancelsTheSession, in their order. -/
theorem witness_StopCancelsTheSession :
    inCamera.fsm.en = true ∧ (fresh.fsm.en = false ∧ fresh.sess.active = false) ∧
    ((inSession .top).fsm.en = false ∧ (inSession .top).sess.active = true) := by decide

theorem witness_RefusedCommandsHaveNoEffect :
    ∃ t, exec .stop fresh = .next t ∧ t.cmd.code ≠ .ok ∧ t.cmd.code ≠ .pending :=
  ⟨_, rfl, by decide, by decide⟩

theorem witness_CommandsKeepEverythingElse : ∃ t, exec .acquire fresh = .next t := ⟨_, rfl⟩

theorem witness_ShiftKindDoesNotMatter : (0 < 256 ∧ 255 < 256 ∧ 255 < 256 : Prop) := by decide

/-- Pixel (1, 1), the last one of a 2 x 2 frame whose six bytes are written, in either plane order. -/
theorem witness_FramePassPaintsEveryPixel :
    let m : Memory := [(0, 1#8), (1, 2#8), (2, 3#8), (3, 4#8), (4, 5#8), (5, 6#8)]
    let s : State := { tiny with srcMem := m }
    1 < s.geom.height.toNat ∧ 1 < s.geom.width.toNat ∧ s.srcMem.read (0 + 3) = some 4#8 ∧
      s.srcMem.read (0 + 4 + 0) = some 5#8 ∧ s.srcMem.read (0 + 4 + 1 + 0) = some 6#8 := by decide

theorem witness_ConvertEndPresentsThePaintedBuffer :
    (inSession .convert).sess.phase = .convert ∧
    (inSession .convert).source.frameBase.toNat +
      (inSession .convert).geom.width.toNat * (inSession .convert).geom.height.toNat * 3 / 2 ≤
        (inSession .convert).params.srcBytes ∧
    2 * ((inSession .convert).geom.width.toNat * (inSession .convert).geom.height.toNat) ≤
      (inSession .convert).params.maxW * (inSession .convert).params.maxH * 2 := by decide

/-- The clauses of FileFetchTakesRewindsOrFails at their boundaries (95 §2.5, FS = 6). -/
theorem witness_FileFetchTakesRewindsOrFails :
    let fs := tiny.geom.width.toNat * tiny.geom.height.toNat * 3 / 2
    let takes : State := { inSession .fetch with source.filePos := 6#32, source.fileLen := 12#32 }
    let rewinds : State := { inSession .fetch with source.filePos := 6#32, source.fileLen := 6#32 }
    let fails : State := { inSession .fetch with source.fileLen := 5#32 }
    (takes.sess.active = true ∧ takes.sess.kind = .file ∧ takes.sess.phase = .fetch ∧
      takes.source.filePos.toNat + fs ≤ takes.source.fileLen.toNat) ∧
    (rewinds.sess.phase = .fetch ∧ rewinds.source.fileLen.toNat < rewinds.source.filePos.toNat + fs ∧
      fs ≤ rewinds.source.fileLen.toNat) ∧
    (fails.sess.phase = .fetch ∧ fails.source.fileLen.toNat < fs) := by decide

/-- The clauses of StreamFetchCompletesOrFails at their boundaries (95 §2.5, FS = 6). -/
theorem witness_StreamFetchCompletesOrFails :
    let s := inStream .fetch
    let fs := s.geom.width.toNat * s.geom.height.toNat * 3 / 2
    s.sess.active = true ∧ s.sess.kind = .stream ∧ s.sess.phase = .fetch ∧
    ({ s with source.acc := 6#32 } : State).source.acc.toNat = fs ∧
    ({ s with source.streamEnd := .error, source.acc := 5#32 } : State).source.acc.toNat < fs ∧
    ({ s with source.streamEnd := .closed } : State).source.acc.toNat = 0 ∧ 0 < fs ∧
    0 < ({ s with source.streamEnd := .closed, source.acc := 1#32 } : State).source.acc.toNat ∧
    ({ s with source.streamEnd := .closed, source.acc := 5#32 } : State).source.acc.toNat < fs := by
  decide

/-- The last byte of a frame at the port, a port that is not ready, and pulses that are latched or not. -/
theorem witness_StreamPortTakesBytesAndPulses :
    let s : State := { inStream .fetch with source.acc := 5#32, source.offered := [7#8] }
    s.source.offered = 7#8 :: [] ∧ s.sess.active = true ∧ s.sess.kind = .stream ∧
    s.sess.phase = .fetch ∧
    s.source.acc.toNat < s.geom.width.toNat * s.geom.height.toNat * 3 / 2 ∧
    s.source.streamEnd = .none ∧ s.source.acc.toNat < s.params.srcBytes ∧
    (inStream .top).sess.phase ≠ .fetch ∧ fresh.sess.active ≠ true := by decide

theorem witness_StalledProducerHoldsTheWorker :
    let s : State := { inStream .fetch with source.acc := 5#32, cmd.pending := .stop }
    s.sess.active = true ∧ s.sess.kind = .stream ∧ s.sess.phase = .fetch ∧
    s.source.streamEnd = .none ∧
    s.source.acc.toNat < s.geom.width.toNat * s.geom.height.toNat * 3 / 2 ∧
    Event.worker ≠ .reset ∧ (∀ a, Event.worker ≠ .producer a) ∧
    (∃ t, runEvent .worker s = .next t) ∧ s.cmd.pending = .stop := by
  refine ⟨by decide, by decide, by decide, by decide, by decide, by decide, ?_, ⟨_, rfl⟩, by decide⟩
  intro a h
  cases h

/-- The clauses of PacingLoopTurns, PACE at the boundary of its guard (95 §2.6). -/
theorem witness_PacingLoopTurns :
    let s : State := { inSession .pace with sess.t0 := 100#32, sess.framePeriod := 100#31 }
    ((inSession .top).sess.phase = .top ∧ ({ inSession .top with sess.cancel := true } : State).sess.cancel = true ∧
      (inSession .top).sess.cancel = false) ∧
    s.sess.phase = .pace ∧
    s.sess.framePeriod.toNat ≤ ((200#32).toNat + 2 ^ 32 - s.sess.t0.toNat) % 2 ^ 32 ∧
    ((199#32).toNat + 2 ^ 32 - s.sess.t0.toNat) % 2 ^ 32 < s.sess.framePeriod.toNat := by decide

theorem witness_PresentDoneCountsTheFrame :
    (inSession .present).sess.phase = .present ∧ (inSession .present).spi.busy = false ∧
    ({ inSession .present with spi.busy := true } : State).spi.busy = true := by decide

/-- The two call sites of the end of a session. -/
theorem witness_SessionEndRecordsTheReason :
    ArbiterInv (inSession .top) ∧ (inSession .top).sess.phase = .top ∧
    ArbiterInv (inStream .fetch) ∧ (inStream .fetch).sess.phase = .fetch :=
  ⟨by constructor <;> decide, by decide, by constructor <;> decide, by decide⟩

/-- A 2 x 2 buffer all of whose eight bytes are written, with and without a command byte. -/
theorem witness_PresentSendsTheBufferInOrder :
    let m : Memory := [(0, 0xFF#8), (1, 0xFF#8), (2, 0xF8#8), (3, 0#8), (4, 7#8), (5, 0xE0#8),
      (6, 0#8), (7, 0x1F#8)]
    let s : State := { tiny with fb0 := m }
    8 = 2 * (s.geom.width.toNat * s.geom.height.toNat) ∧ 8 ≤ s.params.maxW * s.params.maxH * 2 ∧
    8 < 2 ^ 32 ∧ (∀ a, a < 8 → ((s.fb .fb0).read a).isSome = true) := by decide

theorem witness_PresentEndCompletesCommit :
    let s : State := { presenting with spi.idx := 8#32 }
    s.spi.busy = true ∧ s.spi.cmdPhase = false ∧ s.spi.idx = s.spi.len ∧ s.spi.src = .host ∧
      s.cmd.pending = .commit ∧ (inSession .present).sess.phase = .present := by decide

/-- A position in the waveform, the command byte, and a payload byte that has been written. -/
theorem witness_ByteWaveformIsModeZero :
    let s : State := { presenting with fb1 := [(0, 0xF8#8)] }
    (0 < 8 ∧ 7 < 8 ∧ 0 < 1 ∧ 254 < 255 : Prop) ∧ s.spi.busy = true ∧
    ({ s with spi.cmdPhase := true } : State).spi.cmdPhase = true ∧
    s.spi.cmdPhase = false ∧ s.spi.idx < s.spi.len ∧
    s.spi.idx.toNat < s.params.maxW * s.params.maxH * 2 ∧
    (s.fb s.spi.buf).read s.spi.idx.toNat = some 0xF8#8 := by decide

/-- A window of one sample, and a window of three samples two TICKs apart (95 §2.9). -/
theorem witness_WindowReportsWhatItsSamplesAgreeOn :
    let s : State := { fresh with deb.count := 3#8, deb.interval := 2#16 }
    let u : State := { fresh with deb.count := 1#8, deb.interval := 1#16 }
    s.deb.tmr = 0#16 ∧ s.deb.k = 0#8 ∧ 3 = s.deb.count.toNat ∧ 2 = s.deb.interval.toNat ∧
    (0 < 3 ∧ 0 < 2) ∧ [true, false, true, false, true].length = (3 - 1) * 2 + 1 ∧
    u.deb.tmr = 0#16 ∧ u.deb.k = 0#8 ∧ 1 = u.deb.count.toNat ∧ 1 = u.deb.interval.toNat ∧
    [true].length = (1 - 1) * 1 + 1 := by decide

theorem witness_NoSampleBetweenSamples :
    [true, false].length = ({ fresh with deb.tmr := 2#16 } : State).deb.tmr.toNat := by decide

theorem witness_DebounceWritesRestartTheWindow :
    (0x00010001#32).extractLsb' 0 16 ≠ 0#16 ∧ (0x00010000#32).extractLsb' 0 16 = 0#16 ∧
    (0x00000101#32).extractLsb' 0 8 ≠ 0#8 ∧ (0x00000100#32).extractLsb' 0 8 = 0#8 := by decide

/-- The clauses of GestureStepFollowsTheWindows: the hold is at, and one below, its minimum. -/
theorem witness_GestureStepFollowsTheWindows :
    fresh.fsm.en = false ∧ holding.fsm.en = true ∧ holding.fsm.switchPending = false ∧
    inCamera.fsm.gesture = .idle ∧ inCamera.fsm.en = true ∧ inCamera.fsm.switchPending = false ∧
    holding.fsm.gesture ≠ .idle ∧
    holding.fsm.holdCnt.toNat < ({ holding with fsm.holdMin := 3#8 } : State).fsm.holdMin.toNat ∧
    ({ holding with fsm.holdMin := 2#8 } : State).fsm.holdMin.toNat ≤ holding.fsm.holdCnt.toNat := by
  decide

/-- The clauses of DwellStepCountsAndExpires: not counting, one TICK before the limit, and at it. -/
theorem witness_DwellStepCountsAndExpires :
    let s : State := { inCamera with fsm.dwell := 2#32, fsm.dwellMax := 3#32 }
    let u : State := { inCamera with fsm.dwell := 1#32, fsm.dwellMax := 3#32 }
    ¬(fresh.fsm.en = true ∧ fresh.fsm.mode = .camera ∧ fresh.fsm.switchPending = false) ∧
    (s.fsm.en = true ∧ s.fsm.mode = .camera ∧ s.fsm.switchPending = false) ∧
    min (u.fsm.dwell.toNat + 1) (2 ^ 32 - 1) < u.fsm.dwellMax.toNat ∧
    s.fsm.dwellMax ≠ 0#32 ∧
    s.fsm.dwellMax.toNat ≤ min (s.fsm.dwell.toNat + 1) (2 ^ 32 - 1) := by decide

theorem witness_SwitchCompletesWhenTheBlockIsFree :
    let s : State := { holding with fsm.switchPending := true }
    let u : State := { s with fsm.switchTarget := .camera }
    ¬(fresh.fsm.switchPending = true ∧ fresh.sess.active = false ∧ fresh.pool.owner = .none ∧
      fresh.spi.busy = false) ∧
    (s.fsm.switchPending = true ∧ s.sess.active = false ∧ s.pool.owner = .none ∧
      s.spi.busy = false) ∧
    s.fsm.switchTarget = .navigation ∧ u.fsm.switchTarget = .camera := by decide

theorem witness_ModeChangesOnlyByACompletedSwitch :
    let s : State := { tiny with fsm.switchPending := true, fsm.switchTarget := .camera }
    Event.modesw ≠ .reset ∧ ∃ t, runEvent .modesw s = .next t ∧ t.fsm.mode ≠ s.fsm.mode ∧
      s.irqPending .modeChange = false ∧ t.irqPending .modeChange = true :=
  ⟨by decide, _, rfl, by decide, by decide, by decide⟩

/-- The clauses of EnableWritesSwitchOrClear: both locks, no change, a rise during a session, and a fall. -/
theorem witness_EnableWritesSwitchOrClear :
    let s := inSession .top
    ({ holding with fsm.switchPending := true } : State).fsm.switchPending = true ∧
    (s.sess.active = true ∧ (3#32).getLsbD 1 ≠ s.geom.uvSwap) ∧
    ¬(s.fsm.switchPending = true ∨ (s.sess.active = true ∧ (1#32).getLsbD 1 ≠ s.geom.uvSwap)) ∧
    s.fsm.en = (0#32).getLsbD 0 ∧ (s.fsm.en = false ∧ (1#32).getLsbD 0 = true) ∧
    ¬(holding.fsm.switchPending = true ∨
      (holding.sess.active = true ∧ (2#32).getLsbD 1 ≠ holding.geom.uvSwap)) ∧
    (holding.fsm.en = true ∧ (2#32).getLsbD 0 = false) := by decide

theorem witness_CycleCountsExactlyTheTicks :
    (∃ t, runEvent (.tick true) fresh = .next t) ∧ (∃ t, runEvent .reset fresh = .next t) ∧
      ∃ t, runEvent .worker fresh = .next t := ⟨⟨_, rfl⟩, ⟨_, rfl⟩, ⟨_, rfl⟩⟩

theorem witness_RegisterAccessMustBeAlignedWords :
    ((0xFFF#32).toNat < 0x1000 ∧ ¬(Size.b4 = .b4 ∧ (0xFFF#32).toNat % 4 = 0)) ∧
    ((0#32).toNat < 0x1000 ∧ ¬(Size.b2 = .b4 ∧ (0#32).toNat % 4 = 0)) ∧
    ((0x01000000 ≤ (0x02FFFFFF#32).toNat ∧ (0x02FFFFFF#32).toNat < 0x03000000) ∧
      (0x02FFFFFF#32).toNat % Size.b2.bytes ≠ 0) ∧
    ((0x04000000 ≤ (0x04000002#32).toNat ∧ (0x04000002#32).toNat < 0x08000000) ∧
      (0x04000002#32).toNat % Size.b4.bytes ≠ 0) := by decide

/-- The last accepted access of each size in each window, in each owner's case. -/
theorem witness_MemoryWindowsFollowOwnership :
    ((0x0100001C#32).toNat % Size.b4.bytes = 0 ∧ 0x01000000 ≤ (0x0100001C#32).toNat ∧
      (0x0100001C#32).toNat < 0x01000000 + 0x01000000 ∧
      (0x0100001C#32).toNat - 0x01000000 + Size.b4.bytes ≤ fresh.params.maxW * fresh.params.maxH * 2) ∧
    ((0x0200001F#32).toNat % Size.b1.bytes = 0 ∧ 0x02000000 ≤ (0x0200001F#32).toNat ∧
      (0x0200001F#32).toNat < 0x02000000 + 0x01000000 ∧
      (0x0200001F#32).toNat - 0x02000000 + Size.b1.bytes ≤ fresh.params.maxW * fresh.params.maxH * 2) ∧
    ((0x0400003E#32).toNat % Size.b2.bytes = 0 ∧ 0x04000000 ≤ (0x0400003E#32).toNat ∧
      (0x0400003E#32).toNat < 0x08000000 ∧
      (0x0400003E#32).toNat - 0x04000000 + Size.b2.bytes ≤ fresh.params.srcBytes) ∧
    (({ fresh with pool.owner := .worker } : State).pool.owner = .worker ∧
      Buf.fb1 = fresh.pool.front.other) ∧
    (hostHolds.pool.owner = .host ∧ Buf.fb1 = hostHolds.pool.front.other) ∧
    ¬(fresh.pool.owner = .worker) ∧ ¬(fresh.pool.owner = .host) ∧
    (inSession .top).sess.active = true ∧ fresh.sess.active = false := by decide

/-- The first refused address of each disjunct of UnmappedAddressesAreRefused. -/
theorem witness_UnmappedAddressesAreRefused :
    ((0xFFF#32).toNat < 0x1000 ∧ 0x1000 < (0xFFF#32).toNat + Size.b2.bytes) ∧
    (0x1000 ≤ (0x1000#32).toNat ∧ (0x1000#32).toNat < 0x01000000) ∧
    (0x01000000 ≤ (0x01000020#32).toNat ∧ (0x01000020#32).toNat < 0x02000000 ∧
      fresh.params.maxW * fresh.params.maxH * 2 < (0x01000020#32).toNat - 0x01000000 + Size.b1.bytes) ∧
    (0x02000000 ≤ (0x0200001E#32).toNat ∧ (0x0200001E#32).toNat < 0x03000000 ∧
      fresh.params.maxW * fresh.params.maxH * 2 < (0x0200001E#32).toNat - 0x02000000 + Size.b4.bytes) ∧
    (0x03000000 ≤ (0x03FFFFFF#32).toNat ∧ (0x03FFFFFF#32).toNat < 0x04000000) ∧
    (0x04000000 ≤ (0x04000040#32).toNat ∧ (0x04000040#32).toNat < 0x08000000 ∧
      fresh.params.srcBytes < (0x04000040#32).toNat - 0x04000000 + Size.b1.bytes) ∧
    0x08000000 ≤ (0x08000000#32).toNat := by decide

theorem witness_ByteLanesAreLittleEndian :
    (3 < Size.b4.bytes ∧ 0 < Size.b1.bytes) ∧ (1 < 2 ∨ 2 + Size.b2.bytes ≤ 1) ∧
      (4 < 2 ∨ 2 + Size.b2.bytes ≤ 4) := by decide

/-- A read, and a POLL that matches and one that does not. -/
theorem witness_ReadsHaveNoSideEffects :
    let s : State := { fresh with program := [.poll 0x00000008#32 0x8#32 0#32] }
    (hostRead 0x00000000#32 .b4 fresh).reply = some ⟨.ok, 0xD0170001#32⟩ ∧
    s.program = .poll 0x00000008#32 0x8#32 0#32 :: [] ∧
    (hostRead 0x00000008#32 .b4 s).reply = some ⟨.ok, 0x00020000#32⟩ ∧
    0x00020000#32 &&& 0x8#32 = 0#32 ∧ 0x00020148#32 &&& 0x8#32 ≠ 0#32 ∧
    Event.worker ≠ .program ∧ ∃ t, runEvent .worker s = .next t :=
  ⟨by decide, by decide, by decide, by decide, by decide, by decide, _, rfl⟩

/-- The clauses of GeometryWritesAreLockedThenLegal: locked; free with the largest legal size; free with
an odd size, with 0, and with the first even size that is too large. -/
theorem witness_GeometryWritesAreLockedThenLegal :
    smallParams.legal ∧
    (presenting.sess.active = true ∨ presenting.pool.owner ≠ .none ∨ presenting.spi.busy = true) ∧
    ¬(fresh.sess.active = true ∨ fresh.pool.owner ≠ .none ∨ fresh.spi.busy = true) ∧
    (4 % 2 = 0 ∧ 2 ≤ 4 ∧ 4 ≤ fresh.params.maxW ∧ 4 ≤ fresh.params.maxH) ∧
    ¬(3 % 2 = 0 ∧ 2 ≤ 3 ∧ 3 ≤ fresh.params.maxW) ∧ ¬(0 % 2 = 0 ∧ 2 ≤ 0 ∧ 0 ≤ fresh.params.maxH) ∧
    ¬(6 % 2 = 0 ∧ 2 ≤ 6 ∧ 6 ≤ fresh.params.maxH) := by decide

/-- The clauses of ConfigurationWritesAreLockedThenLegal, each limit at its boundary (SRC_BYTES = 64). -/
theorem witness_ConfigurationWritesAreLockedThenLegal :
    (inSession .top).sess.active = true ∧
    (fresh.sess.active = false ∧ (64#32).toNat ≤ fresh.params.srcBytes) ∧
    fresh.params.srcBytes < (65#32).toNat ∧
    (0x101#32).extractLsb' 0 8 ≠ 0#8 ∧ (0x100#32).extractLsb' 0 8 = 0#8 ∧
    presenting.spi.busy = true ∧ fresh.spi.busy = false := by decide

theorem witness_StatusShowsEveryField :
    ((0x068#32).toNat < 0x1000 ∧ (0x068#32).toNat % 4 = 0 ∧
      (0x068#32).toNat ∉ [0x004, 0x00C, 0x018, 0x01C, 0x020, 0x024, 0x028, 0x02C, 0x040, 0x044, 0x048,
        0x04C, 0x054]) ∧
    (0x06C ≤ (0x06C#32).toNat ∧ (0xFFC#32).toNat < 0x1000 ∧ (0xFFC#32).toNat % 4 = 0) ∧
    ({ holding with fsm.switchPending := true } : State).fsm.switchPending = true := by decide

theorem witness_ResetValuesOfTheRegisterMap : smallParams.legal := by decide

/-! The invariants hold of states in the middle of the block's work, and a step is taken from them. -/

theorem arbiterInv_presenting : ArbiterInv presenting := by constructor <;> decide

theorem boundsInv_presenting : BoundsInv presenting := by constructor <;> decide

theorem commandInv_presenting : CommandInv presenting := by constructor <;> decide

theorem modeInv_holding : ModeInv holding := by constructor <;> decide

theorem registerInv_presenting : RegisterInv presenting := by constructor <;> decide

theorem pinInv_presenting : PinInv presenting := by constructor <;> decide

theorem memoryInv_written : MemoryInv { tiny with srcMem := [(0, 1#8), (7, 2#8)] } := by
  constructor <;> decide

theorem arbiterInv_painting :
    ArbiterInv { inSession .convert with pool.owner := .worker } := by constructor <;> decide

theorem boundsInv_painting :
    BoundsInv { inSession .convert with pool.owner := .worker, source.filePos := 6#32 } := by
  constructor <;> decide

theorem witness_StepKeepsTheArbiterInvariants :
    ArbiterInv (next .spi presenting) ∧ ∃ t, step (next .spi presenting) = .next t :=
  ⟨by constructor <;> decide, _, rfl⟩

theorem witness_StepKeepsTheBounds :
    ArbiterInv (next .spi presenting) ∧ BoundsInv (next .spi presenting) ∧
      ∃ t, step (next .spi presenting) = .next t :=
  ⟨by constructor <;> decide, by constructor <;> decide, _, rfl⟩

theorem witness_StepKeepsTheCommandPort :
    ArbiterInv (next .spi presenting) ∧ CommandInv (next .spi presenting) ∧
      ∃ t, step (next .spi presenting) = .next t :=
  ⟨by constructor <;> decide, by constructor <;> decide, _, rfl⟩

theorem witness_StepKeepsTheModeInvariants :
    ModeInv (next (.tick true) holding) ∧ ∃ t, step (next (.tick true) holding) = .next t :=
  ⟨by constructor <;> decide, _, rfl⟩

theorem witness_StepKeepsRegistersAndPins :
    (next .spi presenting).params.legal ∧ RegisterInv (next .spi presenting) ∧
      PinInv (next .spi presenting) ∧ ∃ t, step (next .spi presenting) = .next t :=
  ⟨by decide, by constructor <;> decide, by constructor <;> decide, _, rfl⟩

theorem witness_StepKeepsMemoriesCanonical :
    MemoryInv (next .worker { tiny with srcMem := [(0, 1#8), (7, 2#8)] }) ∧
      ∃ t, step (next .worker { tiny with srcMem := [(0, 1#8), (7, 2#8)] }) = .next t :=
  ⟨by constructor <;> decide, _, rfl⟩

theorem witness_NoErrorStopsTheBlock :
    ArbiterInv (next .spi presenting) ∧ BoundsInv (next .spi presenting) :=
  ⟨by constructor <;> decide, by constructor <;> decide⟩

theorem witness_PresentedBufferIsNotWritten :
    ArbiterInv presenting ∧ presenting.spi.busy = true ∧ Event.spi ≠ .reset ∧
      ∃ t, runEvent .spi presenting = .next t :=
  ⟨arbiterInv_presenting, by decide, by decide, _, rfl⟩

end Sys2Proof.Tests
end

section
/-! PROOFS. The register map of 10_state.md: what a host access to a register word does, what the registers
read after reset, WIDTH and HEIGHT, STATUS and the other read-only registers, and what moves CYCLE. -/

namespace Sys2Proof.Machine

/-! ### A host access to a register word (R102, R104, R507) -/

theorem regionOf_register {a : Word} (ha : a.toNat < 0x1000) : regionOf a = .reg :=
  if_pos (BitVec.lt_def.2 ha)

/-- An aligned word of the register region has a shape that the region takes, and lies inside it. -/
theorem register_word_accepted {a : Word} (ha : a.toNat < 0x1000) (h4 : a.toNat % 4 = 0) (p : Params) :
    shapeOk a .b4 = true ∧ mapped p a .b4 = true := by
  have hr := regionOf_register ha
  constructor
  · simp [shapeOk, hr, aligned, Size.bytes, h4]
  · simp only [mapped, hr, offsetIn, backingSize, Size.bytes, decide_eq_true_eq]
    omega

theorem hostRead_register {a : Word} (ha : a.toNat < 0x1000) (h4 : a.toNat % 4 = 0) (s : State) :
    hostRead a .b4 s = replyOk (readReg a.toNat s) s := by
  obtain ⟨hs, hm⟩ := register_word_accepted ha h4 s.params
  simp [hostRead, readRefused, regionOf_register ha, hs, hm]

/-- A register read as its whole next state; at a literal address the side conditions are decided. -/
theorem hostRead_of_readReg_eq {a w : Word} {s : State} (hw : readReg a.toNat s = w)
    (ha : a.toNat < 0x1000 := by decide) (h4 : a.toNat % 4 = 0 := by decide) :
    hostRead a .b4 s = { s with reply := some ⟨.ok, w⟩ } := by
  rw [hostRead_register ha h4, hw]
  rfl

theorem hostWrite_register_locked {a v : Word} {s : State} (ha : a.toNat < 0x1000)
    (hl : regLocked a.toNat v s = true) : hostWrite a .b4 v s = .next (busError a s) := by
  simp [hostWrite, writeRefused, regionOf_register ha, hl]

theorem hostWrite_register_unlocked {a v : Word} {s : State} (ha : a.toNat < 0x1000)
    (h4 : a.toNat % 4 = 0) (hc : a.toNat ≠ cmdOffset) (hl : regLocked a.toNat v s = false) :
    hostWrite a .b4 v s = .next (replyOk 0 (writeReg a.toNat v s)) := by
  obtain ⟨hs, hm⟩ := register_word_accepted ha h4 s.params
  have hcmd : a ≠ cmdAddr := fun h => hc (by rw [h]; rfl)
  simp [hostWrite, writeRefused, regionOf_register ha, hs, hm, hl, hc, hcmd]

/-! ### Read-only registers and reserved offsets (R32, R67) -/

/-- The offsets at which a write can do more than answer: the RW, RWL, W1C and WO registers of R33. -/
def writableOffsets : List Nat :=
  [0x004, 0x00C, 0x018, 0x01C, 0x020, 0x024, 0x028, 0x02C, 0x040, 0x044, 0x048, 0x04C, 0x054]

theorem writeReg_of_not_writable {o : Nat} (ho : o ∉ writableOffsets) (v : Word) (s : State) :
    writeReg o v s = s := by
  unfold writeReg
  split
  case h_13 => rfl
  all_goals exact absurd (by decide) ho

theorem regLocked_of_not_writable {o : Nat} (ho : o ∉ writableOffsets) (v : Word) (s : State) :
    regLocked o v s = false := by
  unfold regLocked
  split
  case h_6 => rfl
  all_goals exact absurd (by decide) ho

theorem hostWrite_of_not_writable {a : Word} (ha : a.toNat < 0x1000) (h4 : a.toNat % 4 = 0)
    (ho : a.toNat ∉ writableOffsets) (v : Word) (s : State) :
    hostWrite a .b4 v s = .next (replyOk 0 s) := by
  have hc : a.toNat ≠ cmdOffset := fun h => ho (by rw [h]; decide)
  rw [hostWrite_register_unlocked ha h4 hc (regLocked_of_not_writable ho v s),
    writeReg_of_not_writable ho v s]

/-- Past STREAM_CNT, the last register of R33, every offset reads 0. -/
theorem readReg_reserved {o : Nat} (ho : 0x06C ≤ o) (s : State) : readReg o s = 0#32 := by
  unfold readReg
  split
  case h_28 => rfl
  all_goals omega

/-! ### CYCLE (R55): only TICK and reset move it -/

theorem cycle_of_next {o : Host.Outcome State Fault Refusal} {s t u : State} (h : o = .next t)
    (e : o = .next u) (hu : u.cycle = s.cycle) : t.cycle = s.cycle := by
  rw [e] at h
  injection h with h
  rw [← h, hu]

theorem startSession_cycle (k : Kind) (s : State) : (startSession k s).cycle = s.cycle := by
  rcases startSession_cases k s with ⟨c, -, -, e⟩ | ⟨-, -, -, -, e⟩ <;> simp [e]

theorem exec_cycle {i : Instr} {s t : State} (h : exec i s = .next t) : t.cycle = s.cycle := by
  cases i with
  | nop | convertPixel | clearErr => exact cycle_of_next h rfl rfl
  | startFile | startStream => exact cycle_of_next h rfl (startSession_cycle _ s)
  | stop => rcases execStop_cases s with ⟨c, -, -, e⟩ | ⟨-, -, e⟩ <;> exact cycle_of_next h e rfl
  | acquire =>
    rcases execAcquire_cases s with ⟨c, -, -, e⟩ | ⟨-, -, -, -, e⟩ <;> exact cycle_of_next h e rfl
  | commit => rcases execCommit_cases s with e | ⟨-, e⟩ <;> exact cycle_of_next h e rfl

theorem issue_cycle {w : Word} {s t : State} (h : issue w s = .next t) : t.cycle = s.cycle := by
  rcases issue_cases w s with ⟨i, -, e⟩ | e
  · rw [e] at h
    exact (exec_cycle h).trans (latchOpcode_cycle s w)
  · exact cycle_of_next h e rfl

theorem hostRead_cycle (a : Word) (n : Size) (s : State) : (hostRead a n s).cycle = s.cycle := by
  rcases hostRead_cases a n s with e | ⟨x, d, e, -⟩ <;> simp [e]

theorem hostStep_cycle {op : HostOp} {s t : State} (h : hostStep op s = .next t) :
    t.cycle = s.cycle := by
  cases op with
  | read a n => exact cycle_of_next h rfl (hostRead_cycle a n s)
  | write a n v =>
    rw [hostStep] at h
    rcases hostWrite_cases a n v s with e | ⟨-, -, e⟩ | ⟨-, -, -, e⟩ | ⟨-, o, e⟩ | ⟨-, o, e⟩
    · exact cycle_of_next h e rfl
    · exact issue_cycle (e ▸ h)
    · exact cycle_of_next h e (by rw [writeReg_frame]; rfl)
    · exact cycle_of_next h e (by simp)
    · exact cycle_of_next h e rfl

theorem programStep_cycle {s t : State} (h : programStep s = .next t) : t.cycle = s.cycle := by
  rcases programStep_cases s with ⟨p, sch, e⟩ | ⟨a, m, v, rest, -, ⟨-, e⟩ | ⟨-, e⟩⟩ | ⟨op, p, e⟩
  · exact cycle_of_next h e rfl
  · exact cycle_of_next h e (hostRead_cycle a .b4 s)
  · exact cycle_of_next h e (hostRead_cycle a .b4 s)
  · rw [e] at h
    exact (hostStep_cycle h).trans rfl

theorem topStep_cycle (s : State) : (topStep s).cycle = s.cycle := by
  unfold topStep
  split <;> simp

theorem fetchFile_cycle (s : State) : (fetchFile s).cycle = s.cycle := by
  rcases fetchFile_cases s with ⟨-, e⟩ | ⟨-, e⟩ | ⟨c, e, -⟩ <;> simp [e]

theorem convertEnd_cycle {s t : State} (h : convertEnd s = .next t) : t.cycle = s.cycle := by
  obtain ⟨-, -, rfl⟩ := convertEnd_next h
  rw [framePass_frame]
  rfl

theorem workerStep_cycle {s t : State} (h : workerStep s = .next t) : t.cycle = s.cycle := by
  unfold workerStep at h
  split at h
  · exact cycle_of_next h rfl rfl
  · exact cycle_of_next h rfl (topStep_cycle s)
  · exact cycle_of_next h rfl (fetchFile_cycle s)
  · exact cycle_of_next h rfl rfl
  · exact cycle_of_next h rfl (sessionEnd_cycle s _)
  · exact convertEnd_cycle h
  · exact cycle_of_next h rfl rfl
  · exact cycle_of_next h rfl rfl

theorem spiStep_cycle {s t : State} (h : spiStep s = .next t) : t.cycle = s.cycle := by
  rcases spiStep_next h with rfl | ⟨-, -, rfl⟩ | ⟨-, -, -, -, rfl⟩ | ⟨-, -, -, rfl⟩
  · rfl
  · rfl
  · rfl
  · rcases spiEnd_cases s with ⟨-, -, e⟩ | ⟨-, e⟩ <;> simp [e]

theorem switchComplete_cycle (s : State) : (switchComplete s).cycle = s.cycle := by
  cases h : s.fsm.switchTarget <;> simp [switchComplete, h]

theorem modeswStep_cycle (s : State) : (modeswStep s).cycle = s.cycle := by
  rcases modeswStep_cases s with e | ⟨-, -, -, -, e⟩
  · rw [e]
  · rw [e, switchComplete_cycle]

theorem endStream_cycle (x : StreamEnd) (s : State) : (endStream x s).cycle = s.cycle := by
  rcases endStream_cases x s with e | ⟨-, -, -, e⟩ <;> rw [e]

theorem producerStep_cycle {a : ProducerAct} {s t : State} (h : producerStep a s = .next t) :
    t.cycle = s.cycle := by
  cases a with
  | offer x => exact cycle_of_next h rfl rfl
  | push => rcases pushByte_next h with rfl | ⟨x, rest, -, -, -, rfl⟩ <;> rfl
  | close | error => exact cycle_of_next h rfl (endStream_cycle _ s)

/-- No other agent than TICK and reset moves CYCLE. -/
theorem runEvent_cycle {e : Event} {s t : State} (h : runEvent e s = .next t) (hr : e ≠ .reset)
    (ht : ∀ b, e ≠ .tick b) : t.cycle = s.cycle := by
  cases e with
  | tick b => exact absurd rfl (ht b)
  | host op => exact hostStep_cycle h
  | program => exact programStep_cycle h
  | worker => exact workerStep_cycle h
  | spi => exact spiStep_cycle h
  | modesw => exact cycle_of_next h rfl (modeswStep_cycle s)
  | producer a => exact producerStep_cycle h
  | reset => exact absurd rfl hr

theorem tickStep_cycle (b : Bool) (s : State) :
    (tickStep b s).cycle = BitVec.ofNat 32 (s.cycle.toNat + 1) := by
  rw [tickStep_frame]
  apply BitVec.eq_of_toNat_eq
  simp [BitVec.toNat_add]

/-- Settles O40: one case per agent, each by what its step can do. -/
theorem cycleCountsExactlyTheTicks : Obligations.CycleCountsExactlyTheTicks := by
  refine ⟨fun _ => rfl, fun _ => rfl, fun e s t h => ⟨?_, ?_, runEvent_cycle h⟩⟩
  · rintro b rfl
    injection h with h
    rw [← h, tickStep_cycle]
  · rintro rfl
    injection h with h
    rw [← h]
    rfl

/-! ### A register narrower than 32 bits reads with zero bits above it -/

theorem setWidth_16_32 (x : BitVec 16) : x.setWidth 32 = 0#16 ++ x :=
  BitVec.setWidth_eq_append (by decide)

theorem setWidth_5_32 (x : BitVec 5) : x.setWidth 32 = 0#27 ++ x :=
  BitVec.setWidth_eq_append (by decide)

/-! ### The register map after reset (R33, R75) -/

/-- Apart from the three registers that reset to a parameter, the registers read the same after reset
whatever the parameters are. -/
theorem readReg_resetWith_eq {r : Reg} (hw : r ≠ .width) (hh : r ≠ .height) (hd : r ≠ .debInterval)
    (p q : Params) :
    readReg r.offset (State.resetWith p) = readReg r.offset (State.resetWith q) := by
  cases r
  case width => exact absurd rfl hw
  case height => exact absurd rfl hh
  case debInterval => exact absurd rfl hd
  all_goals rfl

theorem readReg_status_reset (p : Params) : readReg 0x008 (State.resetWith p) = 0x00020000#32 :=
  (readReg_resetWith_eq (r := .status) (by decide) (by decide) (by decide) p ⟨0, 0, 0, 0, 0⟩).trans
    (by decide)

theorem readReg_width_reset {p : Params} (h : p.maxW ≤ 65534) :
    readReg 0x020 (State.resetWith p) = BitVec.ofNat 32 p.maxW :=
  BitVec.setWidth_ofNat_of_le_of_lt (by decide) (by omega)

theorem readReg_height_reset {p : Params} (h : p.maxH ≤ 65534) :
    readReg 0x024 (State.resetWith p) = BitVec.ofNat 32 p.maxH :=
  BitVec.setWidth_ofNat_of_le_of_lt (by decide) (by omega)

theorem readReg_debInterval_reset {p : Params} (h : p.debIntervalRst ≤ 65535) :
    readReg 0x040 (State.resetWith p) = BitVec.ofNat 32 p.debIntervalRst :=
  BitVec.setWidth_ofNat_of_le_of_lt (by decide) (by omega)

/-- Settles O50: three registers follow the parameters, every other one reads as it does
for one choice of them. -/
theorem resetValuesOfTheRegisterMap : Obligations.ResetValuesOfTheRegisterMap := by
  rintro p ⟨-, -, hw, -, -, hh, -, -, -, -, hd, -⟩
  refine ⟨fun r => ?_, by simp [State.resetWith], by simp [State.irq, State.resetWith], rfl, rfl, rfl,
    rfl, rfl, ?_, fun _ => rfl⟩
  · cases r
    case width => exact readReg_width_reset hw
    case height => exact readReg_height_reset hh
    case debInterval => exact readReg_debInterval_reset hd
    all_goals
      rw [readReg_resetWith_eq (by decide) (by decide) (by decide) p ⟨0, 0, 0, 0, 0⟩]
      dsimp only
      decide
  · intro b a
    cases b <;> rfl

/-! ### WIDTH and HEIGHT (R48, R49) -/

theorem geomLocked_iff (s : State) :
    s.geomLocked = true ↔ s.sess.active = true ∨ s.pool.owner ≠ .none ∨ s.spi.busy = true := by
  simp [State.geomLocked, or_assoc]

/-- Bits 15:0 of a written word, the display size it asks for. -/
theorem low16_eq_ofNat (v : Word) : v.extractLsb' 0 16 = BitVec.ofNat 16 (v.toNat % 65536) := by
  apply BitVec.eq_of_toNat_eq
  simp

theorem sizeLegal_low16_iff (limit : Nat) (v : Word) :
    sizeLegal limit (v.extractLsb' 0 16) = true ↔
      v.toNat % 65536 % 2 = 0 ∧ 2 ≤ v.toNat % 65536 ∧ v.toNat % 65536 ≤ limit := by
  simp [sizeLegal]

theorem writeWidth_legal {v : Word} {s : State}
    (h : sizeLegal s.params.maxW (v.extractLsb' 0 16) = true) :
    writeWidth v s = { s with geom.width := v.extractLsb' 0 16 } := if_pos h

theorem writeWidth_illegal {v : Word} {s : State}
    (h : ¬sizeLegal s.params.maxW (v.extractLsb' 0 16) = true) : writeWidth v s = s := if_neg h

theorem writeHeight_legal {v : Word} {s : State}
    (h : sizeLegal s.params.maxH (v.extractLsb' 0 16) = true) :
    writeHeight v s = { s with geom.height := v.extractLsb' 0 16 } := if_pos h

theorem writeHeight_illegal {v : Word} {s : State}
    (h : ¬sizeLegal s.params.maxH (v.extractLsb' 0 16) = true) : writeHeight v s = s := if_neg h

theorem hostWrite_width_unlocked {s : State} (v : Word) (hl : ¬s.geomLocked = true) :
    hostWrite 0x00000020#32 .b4 v s = .next (replyOk 0 (writeWidth v s)) :=
  hostWrite_register_unlocked (by decide) (by decide) (by decide) (Bool.eq_false_iff.2 hl)

theorem hostWrite_height_unlocked {s : State} (v : Word) (hl : ¬s.geomLocked = true) :
    hostWrite 0x00000024#32 .b4 v s = .next (replyOk 0 (writeHeight v s)) :=
  hostWrite_register_unlocked (by decide) (by decide) (by decide) (Bool.eq_false_iff.2 hl)

/-- Settles O47: the lock is checked before the size, and the size decides what is stored. -/
theorem geometryWritesAreLockedThenLegal : Obligations.GeometryWritesAreLockedThenLegal := by
  constructor
  · rintro p ⟨-, -, hw, -, -, hh, -⟩
    exact ⟨readReg_width_reset hw, readReg_height_reset hh⟩
  · intro s v
    simp only [← geomLocked_iff, ← sizeLegal_low16_iff, ← low16_eq_ofNat]
    refine ⟨setWidth_16_32 _, setWidth_16_32 _, fun hl => ⟨?_, ?_⟩, fun hl hx => ?_, fun hl hx => ?_,
      fun hl hx => ?_, fun hl hx => ?_⟩
    · exact hostWrite_register_locked (by decide) hl
    · exact hostWrite_register_locked (by decide) hl
    · rw [hostWrite_width_unlocked v hl, writeWidth_legal hx]; rfl
    · rw [hostWrite_height_unlocked v hl, writeHeight_legal hx]; rfl
    · rw [hostWrite_width_unlocked v hl, writeWidth_illegal hx]; rfl
    · rw [hostWrite_height_unlocked v hl, writeHeight_illegal hx]; rfl

/-! ### Words made of fields

A status word is its fields appended; `HAppend.hAppend` unfolds to `BitVec.append`, on which the lemmas
below select the field that holds the wanted bits. -/

theorem extractLsb'_append_above {m n i len : Nat} {hi : BitVec m} {lo : BitVec n} (h : n ≤ i) :
    (hi.append lo).extractLsb' i len = hi.extractLsb' (i - n) len :=
  BitVec.extractLsb'_append_eq_of_le h

theorem extractLsb'_append_below {m n i len : Nat} {hi : BitVec m} {lo : BitVec n}
    (h : i + len ≤ n) : (hi.append lo).extractLsb' i len = lo.extractLsb' i len :=
  BitVec.extractLsb'_append_eq_of_add_le h

theorem getLsbD_append_above {m n i : Nat} {hi : BitVec m} {lo : BitVec n} (h : n ≤ i) :
    (hi.append lo).getLsbD i = hi.getLsbD (i - n) :=
  BitVec.getLsbD_append.trans (if_neg (Nat.not_lt.2 h))

theorem getLsbD_append_below {m n i : Nat} {hi : BitVec m} {lo : BitVec n} (h : i < n) :
    (hi.append lo).getLsbD i = lo.getLsbD i :=
  BitVec.getLsbD_append.trans (if_pos h)

theorem getLsbD_zero_ofBool (b : Bool) : (BitVec.ofBool b).getLsbD 0 = b := by simp

/-- R42's fields that are one bit wide, in their places. -/
theorem statusWord_bits (s : State) :
    s.statusWord.getLsbD 0 = s.sess.active ∧
    s.statusWord.getLsbD 1 = s.sess.kind.code.getLsbD 0 ∧
    s.statusWord.getLsbD 2 = s.sess.cancel ∧
    s.statusWord.getLsbD 3 = s.cmdBusy ∧
    s.statusWord.getLsbD 6 = s.pool.front.index.getLsbD 0 ∧
    s.statusWord.getLsbD 7 = s.fsm.mode.code.getLsbD 0 ∧
    s.statusWord.getLsbD 8 = s.spi.busy ∧
    s.statusWord.getLsbD 9 = s.fsm.switchPending ∧
    s.statusWord.getLsbD 10 = s.fsm.switchTarget.code.getLsbD 0 := by
  refine ⟨?_, ?_, ?_, ?_, ?_, ?_, ?_, ?_, ?_⟩ <;>
    simp only [State.statusWord, HAppend.hAppend, getLsbD_append_above, getLsbD_append_below,
      Nat.reduceLeDiff, Nat.reduceLT, Nat.reduceSub, getLsbD_zero_ofBool]

/-- R42's wider fields, in their places, and its reserved bits. -/
theorem statusWord_fields (s : State) :
    s.statusWord.extractLsb' 4 2 = s.pool.owner.code ∧
    s.statusWord.extractLsb' 11 3 = s.sess.phase.code ∧
    s.statusWord.extractLsb' 14 2 = s.fsm.gesture.code ∧
    s.statusWord.extractLsb' 16 2 = s.deb.lastStable.code ∧
    s.statusWord.extractLsb' 18 2 = s.source.streamEnd.code ∧
    s.statusWord.extractLsb' 20 12 = 0#12 := by
  refine ⟨?_, ?_, ?_, ?_, ?_, ?_⟩ <;>
    simp only [State.statusWord, HAppend.hAppend, extractLsb'_append_above, extractLsb'_append_below,
      Nat.reduceLeDiff, Nat.reduceAdd, Nat.reduceSub, BitVec.extractLsb'_eq_self]

/-- R64's fields, in their places, and its reserved bits. -/
theorem buttonWord_fields (s : State) :
    s.buttonWord.getLsbD 0 = s.deb.pin ∧
    s.buttonWord.extractLsb' 1 2 = s.deb.lastResult.code ∧
    s.buttonWord.extractLsb' 4 2 = s.fsm.lastEvent.code ∧
    s.buttonWord.extractLsb' 6 2 = 0#2 ∧
    s.buttonWord.extractLsb' 8 8 = s.fsm.holdCnt ∧
    s.buttonWord.extractLsb' 16 8 = s.deb.k ∧
    s.buttonWord.extractLsb' 24 8 = 0#8 := by
  refine ⟨?_, ?_, ?_, ?_, ?_, ?_, ?_⟩ <;>
    simp only [State.buttonWord, HAppend.hAppend, getLsbD_append_below, extractLsb'_append_above,
      extractLsb'_append_below, Nat.reduceLeDiff, Nat.reduceLT, Nat.reduceAdd, Nat.reduceSub,
      getLsbD_zero_ofBool, BitVec.extractLsb'_eq_self]

/-! ### The codes of R42 and R45 that are one bit wide -/

theorem Kind.code_eq_ofBool (k : Kind) : k.code = BitVec.ofBool (decide (k = .stream)) := by
  cases k <;> rfl

theorem Kind.code_getLsbD (k : Kind) : k.code.getLsbD 0 = decide (k = .stream) := by
  cases k <;> rfl

theorem Mode.code_getLsbD (m : Mode) : m.code.getLsbD 0 = decide (m = .camera) := by
  cases m <;> rfl

theorem Buf.index_getLsbD (b : Buf) : b.index.getLsbD 0 = decide (b = .fb1) := by
  cases b <;> rfl

theorem cmdBusy_eq_decide (s : State) : s.cmdBusy = decide (s.cmd.pending ≠ .none) := by
  unfold State.cmdBusy
  cases s.cmd.pending <;> rfl

/-- Settles O49: a word is its fields side by side, a register read answers that word, and a write to a
register that is not writable is answered and ignored. -/
theorem statusShowsEveryField : Obligations.StatusShowsEveryField := by
  refine ⟨readReg_status_reset, fun s v => ⟨fun a ha h4 ho => hostWrite_of_not_writable ha h4 ho v s,
    fun a h ha h4 => hostRead_of_readReg_eq (readReg_reserved h s) ha h4, ?registers, ?button, ?status⟩⟩
  case registers =>
    refine ⟨hostRead_of_readReg_eq rfl, hostRead_of_readReg_eq rfl, hostRead_of_readReg_eq ?result,
      hostRead_of_readReg_eq ?error, hostRead_of_readReg_eq (setWidth_5_32 _),
      hostRead_of_readReg_eq rfl, hostRead_of_readReg_eq rfl, hostRead_of_readReg_eq rfl,
      hostRead_of_readReg_eq rfl, hostRead_of_readReg_eq rfl, hostRead_of_readReg_eq rfl,
      hostRead_of_readReg_eq (setWidth_16_32 _), hostRead_of_readReg_eq rfl,
      hostRead_of_readReg_eq rfl⟩
    case result =>
      show s.cmdResultWord = _
      unfold State.cmdResultWord
      cases s.cmd.code <;> rfl
    case error =>
      show s.errWord = _
      rw [State.errWord, Kind.code_eq_ofBool]
      cases s.err.cause <;> rfl
  case button =>
    obtain ⟨hpin, hresult, hevent, hlow, hhold, hk, hhigh⟩ := buttonWord_fields s
    refine ⟨s.buttonWord, hostRead_of_readReg_eq rfl, hpin, hresult.trans ?_, hevent.trans ?_, hlow,
      hhold, hk, hhigh⟩
    · cases s.deb.lastResult <;> rfl
    · cases s.fsm.lastEvent <;> rfl
  case status =>
    obtain ⟨hactive, hkind, hcancel, hcmd, hfront, hmode, hspi, hswitch, htarget⟩ := statusWord_bits s
    obtain ⟨howner, hphase, hgesture, hstable, hend, hreserved⟩ := statusWord_fields s
    refine ⟨s.statusWord, hostRead_of_readReg_eq rfl, hactive, hkind.trans (Kind.code_getLsbD _),
      hcancel, hcmd.trans (cmdBusy_eq_decide s), howner.trans ?_, hfront.trans (Buf.index_getLsbD _),
      hmode.trans (Mode.code_getLsbD _), hspi, hswitch, fun _ => htarget.trans (Mode.code_getLsbD _),
      hphase.trans ?_, hgesture.trans ?_, hstable.trans ?_, hend.trans ?_, hreserved⟩
    · cases s.pool.owner <;> rfl
    · cases s.sess.phase <;> rfl
    · cases s.fsm.gesture <;> rfl
    · cases s.deb.lastStable <;> rfl
    · cases s.source.streamEnd <;> rfl

end Sys2Proof.Machine
end

section
/-! PROOFS. The host port of 20_memory.md: the region an address lies in and its offset there, which accesses
are bus errors whatever the state is, and what an access to a framebuffer or to SRC does. -/

namespace Sys2Proof.Machine

/-! ### The regions of R100 and the offsets in them -/

theorem Buf.base_toNat (b : Buf) : b.base.toNat = if b = .fb0 then 0x01000000 else 0x02000000 := by
  cases b <;> rfl

theorem regionOf_framebuffer {b : Buf} {a : Word} (hb : b.base.toNat ≤ a.toNat)
    (ha : a.toNat < b.base.toNat + 0x01000000) : regionOf a = .fb b := by
  unfold regionOf
  cases b <;> simp only [Buf.base, BitVec.lt_def, BitVec.toNat_ofNat] at * <;> grind

theorem regionOf_source {a : Word} (hb : srcBase.toNat ≤ a.toNat) (ha : a.toNat < 0x08000000) :
    regionOf a = .src := by
  unfold regionOf
  simp only [srcBase, BitVec.lt_def, BitVec.toNat_ofNat] at *
  grind

theorem regionOf_gap {a : Word}
    (ha : (0x1000 ≤ a.toNat ∧ a.toNat < 0x01000000) ∨ (0x03000000 ≤ a.toNat ∧ a.toNat < 0x04000000) ∨
      0x08000000 ≤ a.toNat) : regionOf a = .unmapped := by
  unfold regionOf
  simp only [BitVec.lt_def, BitVec.toNat_ofNat]
  grind

theorem offsetIn_framebuffer {b : Buf} {a : Word} (h : b.base.toNat ≤ a.toNat) :
    offsetIn (.fb b) a = a.toNat - b.base.toNat :=
  BitVec.toNat_sub_of_le (BitVec.le_def.2 h)

theorem offsetIn_source {a : Word} (h : srcBase.toNat ≤ a.toNat) :
    offsetIn .src a = a.toNat - srcBase.toNat :=
  BitVec.toNat_sub_of_le (BitVec.le_def.2 h)

theorem mapped_iff_of_region {a : Word} {r : Region} (hr : regionOf a = r) (n : Size) (p : Params) :
    mapped p a n = true ↔ offsetIn r a + n.bytes ≤ backingSize p r := by
  simp [mapped, hr]

theorem mapped_register_iff {a : Word} (ha : a.toNat < 0x1000) (n : Size) (p : Params) :
    mapped p a n = true ↔ a.toNat + n.bytes ≤ 0x1000 :=
  mapped_iff_of_region (regionOf_register ha) n p

theorem mapped_framebuffer_iff {b : Buf} {a : Word} (hb : b.base.toNat ≤ a.toNat)
    (ha : a.toNat < b.base.toNat + 0x01000000) (n : Size) (p : Params) :
    mapped p a n = true ↔ a.toNat - b.base.toNat + n.bytes ≤ p.maxW * p.maxH * 2 := by
  rw [mapped_iff_of_region (regionOf_framebuffer hb ha), offsetIn_framebuffer hb]
  rfl

theorem mapped_source_iff {a : Word} (hb : srcBase.toNat ≤ a.toNat) (ha : a.toNat < 0x08000000)
    (n : Size) (p : Params) :
    mapped p a n = true ↔ a.toNat - srcBase.toNat + n.bytes ≤ p.srcBytes := by
  rw [mapped_iff_of_region (regionOf_source hb ha), offsetIn_source hb]
  rfl

/-- No memory stands behind the addresses between the regions, and every size has a byte. -/
theorem not_mapped_of_gap {a : Word} (hr : regionOf a = .unmapped) (n : Size) (p : Params) :
    ¬mapped p a n = true := by
  rw [mapped_iff_of_region hr]
  exact Nat.not_le.2 (Nat.add_pos_right _ (by cases n <;> decide))

/-! ### Alignment (R104, R105) -/

theorem shapeOk_eq_false_of_misaligned {a : Word} {n : Size} (h : a.toNat % n.bytes ≠ 0) :
    shapeOk a n = false := by
  unfold shapeOk
  split <;> simp [aligned, h]

theorem shapeOk_register_eq_false {a : Word} {n : Size} (ha : a.toNat < 0x1000)
    (h : ¬(n = .b4 ∧ a.toNat % 4 = 0)) : shapeOk a n = false := by
  by_cases hn : n = .b4
  · subst hn
    exact shapeOk_eq_false_of_misaligned fun h4 => h ⟨rfl, h4⟩
  · simp [shapeOk, regionOf_register ha, hn]

theorem shapeOk_of_aligned {a : Word} {n : Size} (hr : regionOf a ≠ .reg) (h : a.toNat % n.bytes = 0) :
    shapeOk a n = true := by
  unfold shapeOk
  split
  · exact absurd ‹_› hr
  · simp [aligned, h]

/-! ### Accesses that are bus errors in every state -/

/-- R101, R104 and R105 refuse an access in every state: no owner, lock, session or written value matters. -/
theorem access_busError {a : Word} {n : Size} {s : State}
    (h : shapeOk a n = false ∨ mapped s.params a n = false) (v : Word) :
    hostRead a n s = busError a s ∧ hostWrite a n v s = .next (busError a s) := by
  rcases h with h | h <;> simp [hostRead, hostWrite, readRefused, writeRefused, h]

/-- Settles O41: only the shape of the access is looked at. -/
theorem registerAccessMustBeAlignedWords : Obligations.RegisterAccessMustBeAlignedWords := by
  intro s a v n
  exact ⟨fun ha h => access_busError (.inl (shapeOk_register_eq_false ha h)) v,
    fun _ h => access_busError (.inl (shapeOk_eq_false_of_misaligned h)) v⟩

/-- Settles O43: in each case some byte lies outside the memory behind the region. -/
theorem unmappedAddressesAreRefused : Obligations.UnmappedAddressesAreRefused := by
  intro s a v n h
  refine access_busError (.inr (Bool.eq_false_iff.2 ?_)) v
  rcases h with ⟨ha, h⟩ | h | ⟨hb, ha, h⟩ | ⟨hb, ha, h⟩ | h | ⟨hb, ha, h⟩ | h
  · exact mt (mapped_register_iff ha n _).1 (Nat.not_le.2 h)
  · exact not_mapped_of_gap (regionOf_gap (.inl h)) n _
  · exact mt (mapped_framebuffer_iff (b := .fb0) hb ha n _).1 (Nat.not_le.2 h)
  · exact mt (mapped_framebuffer_iff (b := .fb1) hb ha n _).1 (Nat.not_le.2 h)
  · exact not_mapped_of_gap (regionOf_gap (.inr (.inl h))) n _
  · exact mt (mapped_source_iff hb ha n _).1 (Nat.not_le.2 h)
  · exact not_mapped_of_gap (regionOf_gap (.inr (.inr h))) n _

/-! ### Aligned accesses inside a memory (R106, R107, R108) -/

section Accepted

variable {a : Word} {n : Size} {s : State} (hs : shapeOk a n = true) (hm : mapped s.params a n = true)
include hs hm

theorem hostRead_framebuffer {b : Buf} (hr : regionOf a = .fb b) :
    hostRead a n s = if s.pool.owner = .worker ∧ b = s.back then busError a s
      else readMem (s.fb b) (offsetIn (.fb b) a) n s := by
  simp [hostRead, readRefused, hs, hm, hr]

theorem hostWrite_framebuffer {b : Buf} (hr : regionOf a = .fb b) (v : Word) :
    hostWrite a n v s = if s.pool.owner = .host ∧ b = s.back then
        .next (replyOk 0 (s.setFb b ((s.fb b).writeLanes (offsetIn (.fb b) a) n.bytes v)))
      else .next (busError a s) := by
  by_cases h : s.pool.owner = .host ∧ b = s.back <;> simp [hostWrite, writeRefused, hs, hm, hr, h]

theorem hostRead_source (hr : regionOf a = .src) :
    hostRead a n s = if s.sess.active then busError a s
      else readMem s.srcMem (offsetIn .src a) n s := by
  simp [hostRead, readRefused, hs, hm, hr]

theorem hostWrite_source (hr : regionOf a = .src) (v : Word) :
    hostWrite a n v s = if s.sess.active then .next (busError a s)
      else .next (replyOk 0
        { s with srcMem := s.srcMem.writeLanes (offsetIn .src a) n.bytes v }) := by
  simp [hostWrite, writeRefused, hs, hm, hr]

end Accepted

/-- A framebuffer write, answered, as its whole next state. -/
theorem replyOk_setFb_writeLanes (s : State) (b : Buf) (o n : Nat) (v : Word) :
    replyOk 0 (s.setFb b ((s.fb b).writeLanes o n v)) =
      { s with
        reply := some ⟨.ok, 0#32⟩
        fb0 := if b = .fb0 then s.fb0.writeLanes o n v else s.fb0
        fb1 := if b = .fb1 then s.fb1.writeLanes o n v else s.fb1 } := by
  cases b <;> rfl

/-- Settles O42: the access is mapped and aligned, so ownership or the session decides alone. -/
theorem memoryWindowsFollowOwnership : Obligations.MemoryWindowsFollowOwnership := by
  intro s a v n ha
  refine ⟨fun b base hbase => ?framebuffer, fun hlo hhi hfit => ?source⟩
  case framebuffer =>
    obtain rfl := hbase.trans b.base_toNat.symm
    intro hlo hhi hfit
    have hr := regionOf_framebuffer hlo hhi
    have hs := shapeOk_of_aligned (by simp [hr]) ha
    have hm := (mapped_framebuffer_iff hlo hhi n s.params).2 hfit
    have hread := hostRead_framebuffer hs hm hr
    have hwrite := hostWrite_framebuffer hs hm hr v
    rw [offsetIn_framebuffer hlo] at hread hwrite
    exact ⟨fun h => hread.trans (if_pos h), fun h => hread.trans (if_neg h),
      fun h => hwrite.trans (if_neg h),
      fun h => (hwrite.trans (if_pos h)).trans (congrArg _ (replyOk_setFb_writeLanes s b _ _ v))⟩
  case source =>
    have hr := regionOf_source hlo hhi
    have hs := shapeOk_of_aligned (by simp [hr]) ha
    have hm := (mapped_source_iff hlo hhi n s.params).2 hfit
    have hread := hostRead_source hs hm hr
    have hwrite := hostWrite_source hs hm hr v
    rw [offsetIn_source hlo] at hread hwrite
    refine ⟨fun h => ⟨hread.trans (if_pos h), hwrite.trans (if_pos h)⟩, fun h => ?_⟩
    have hidle := Bool.eq_false_iff.1 h
    exact ⟨hread.trans (if_neg hidle), hwrite.trans (if_neg hidle)⟩

end Sys2Proof.Machine
end

section
/-! PROOFS. The command port of 30_encoding.md: the decoder on all words, row by row and as the list of the
illegal ones, and what a write to CMD does while a command is pending and while none is. -/

namespace Sys2Proof

/-! ### The fields of a word under a row's mask (R150, R153) -/

/-- A row whose mask holds every bit has its match as its only word. -/
theorem eq_of_and_fullMask {w m : Word} (h : w &&& 0xFFFFFFFF#32 = m) : w = m :=
  BitVec.and_allOnes.symm.trans h

theorem opcodeOf_and_opcodeMask (w : Word) : opcodeOf (w &&& 0xFF000000#32) = opcodeOf w := by
  have hmask : (0xFF000000#32).extractLsb' 24 8 = BitVec.allOnes 8 := by decide
  rw [opcodeOf, BitVec.extractLsb'_and, hmask, BitVec.and_allOnes, opcodeOf]

/-- Layout S: the two legal operands are those whose bits 23:1 are zero (R151). -/
theorem operandOf_eq_zero_or_one_iff (w : Word) :
    operandOf w = 0#24 ∨ operandOf w = 1#24 ↔ w.extractLsb' 1 23 = 0#23 := by
  simp only [operandOf, ← BitVec.toNat_inj, BitVec.extractLsb'_toNat, BitVec.toNat_ofNat,
    Nat.shiftRight_zero, Nat.shiftRight_succ]
  omega

/-! ### The illegal words of each layout, and of the whole map -/

theorem decodeN_eq_error_iff (w : Word) (i : Instr) :
    (∃ e, decodeN w i = .error e) ↔ operandOf w ≠ 0#24 := by
  by_cases h : operandOf w = 0#24 <;> simp [decodeN, h]

theorem decodeS_eq_error_iff (w : Word) :
    (∃ e, decodeS w = .error e) ↔ w.extractLsb' 1 23 ≠ 0#23 := by
  rw [ne_eq, ← operandOf_eq_zero_or_one_iff w]
  unfold decodeS
  split_ifs with hfile hstream
  · simp [hfile]
  · simp [hstream]
  · simp [hfile, hstream]

/-- R154's illegal words: the cases are the decoder's own, one per opcode. -/
theorem decode_eq_error_iff (w : Word) :
    (∃ e, decode w = .error e) ↔
      0x07#8 ≤ opcodeOf w ∨
      ((opcodeOf w = 0x00#8 ∨ (0x03#8 ≤ opcodeOf w ∧ opcodeOf w ≤ 0x06#8)) ∧ operandOf w ≠ 0#24) ∨
      (opcodeOf w = 0x02#8 ∧ w.extractLsb' 1 23 ≠ 0#23) := by
  unfold decode
  split_ifs with h0 h1 h2 h3 h4 h5 h6
  · simp [decodeN_eq_error_iff, h0]
  · simp [h1]
  · simp [decodeS_eq_error_iff, h2]
  · simp [decodeN_eq_error_iff, h3]
  · simp [decodeN_eq_error_iff, h4]
  · simp [decodeN_eq_error_iff, h5]
  · simp [decodeN_eq_error_iff, h6]
  · have hreserved : 0x07#8 ≤ opcodeOf w := by bv_omega
    simp [hreserved]

theorem decode_of_opcode_eq_one {w : Word} (h : opcodeOf w = 0x01#8) :
    decode w = .ok (.convertPixel (sampleY w) (sampleU w) (sampleV w)) := by
  simp [decode, h]

/-- Settles O3: a full mask leaves one word to decode, CONVERT_PIXEL's mask fixes the opcode alone, and
the illegal words are those of each opcode's layout. -/
theorem decodeFollowsTheOpcodeMap : Obligations.DecodeFollowsTheOpcodeMap := by
  intro w
  refine ⟨fun h => ?_, fun h => ?convertPixel, fun h => ?_, fun h => ?_, fun h => ?_, fun h => ?_,
    fun h => ?_, fun h => ?_, decode_eq_error_iff w⟩
  case convertPixel =>
    exact decode_of_opcode_eq_one ((opcodeOf_and_opcodeMask w).symm.trans (congrArg opcodeOf h))
  all_goals
    rw [eq_of_and_fullMask h]
    decide

end Sys2Proof

namespace Sys2Proof.Machine

/-! ### A write of a word to CMD (R155, R157) -/

theorem hostWrite_cmd_idle {s : State} (h : s.cmd.pending = .none) (w : Word) :
    hostWrite cmdAddr .b4 w s = issue w s := by
  obtain ⟨hs, hm⟩ := register_word_accepted (a := cmdAddr) (by decide) (by decide) s.params
  have hr : regionOf cmdAddr = .reg := regionOf_register (by decide)
  have hl : regLocked cmdAddr.toNat w s = false := rfl
  simp [hostWrite, writeRefused, hs, hm, hr, hl, State.cmdBusy, h]

theorem hostWrite_cmd_busy {s : State} (h : s.cmd.pending ≠ .none) (w : Word) :
    hostWrite cmdAddr .b4 w s = .next (busError cmdAddr s) := by
  have hr : regionOf cmdAddr = .reg := regionOf_register (by decide)
  have hc : cmdAddr.toNat = cmdOffset := rfl
  simp [hostWrite, writeRefused, hr, hc, State.cmdBusy, h]

theorem issue_of_decode_ok {w : Word} {i : Instr} (h : decode w = .ok i) (s : State) :
    issue w s = exec i (latchOpcode w s) := by
  simp [issue, h]

theorem issue_of_decode_error {w : Word} {e : DecodeError} (h : decode w = .error e) (s : State) :
    issue w s = .next (illegalWord (latchOpcode w s)) := by
  simp [issue, h]

/-- Settles O7: the refusal is the bus error at CMD. -/
theorem busyCommandPortRefuses : Obligations.BusyCommandPortRefuses :=
  fun _ w h => hostWrite_cmd_busy h w

/-! ### A step that is a host write (R16, R159) -/

theorem step_of_host_write {s : State} {a v : Word} {n : Size} {rest : List Event}
    (h : s.schedule = .host (.write a n v) :: rest) :
    step s = hostWrite a n v { s with schedule := rest } :=
  step_of_schedule h

theorem programStep_wr {s : State} {a v : Word} {p : List HostStmt} (h : s.program = .wr a v :: p) :
    programStep s = hostWrite a .b4 v { s with program := p } := by
  simp [programStep, h, hostStep]

/-- The host's turn at a WR is the write itself, with the program moved on. -/
theorem step_of_wr_turn {s : State} {a v : Word} {rest : List Event} {p : List HostStmt}
    (hsch : s.schedule = .program :: rest) (hprog : s.program = .wr a v :: p) :
    step s = hostWrite a .b4 v { s with schedule := rest, program := p } :=
  (step_of_schedule hsch).trans (programStep_wr (s := { s with schedule := rest }) hprog)

/-- Settles O5: the write at an idle CMD issues the word, and the host's turn at a WR is its write. -/
theorem stepExecutesDecodedCommand : Obligations.StepExecutesDecodedCommand := by
  intro s w rest
  refine ⟨fun hsch hidle => ?_, fun p hsch hprog => ?_⟩
  · have hissue : step s = issue w { s with schedule := rest } :=
      (step_of_host_write hsch).trans (hostWrite_cmd_idle (s := { s with schedule := rest }) hidle w)
    exact ⟨fun i hi => hissue.trans (issue_of_decode_ok hi _),
      fun e he => hissue.trans (issue_of_decode_error he _)⟩
  · exact (step_of_wr_turn hsch hprog).trans (Eq.symm (step_of_host_write rfl))

end Sys2Proof.Machine
end

section
/-! PROOFS. The converter of 40_color_converter.md: saturation and the two kinds of shift, the ranges of the
transform's sums, the fields of a packed pixel, and CONVERT_PIXEL. -/

namespace Sys2Proof.Machine

/-! ### Saturation and the shift by 8 (R201, R202) -/

theorem clamp8_eq_max_min (x : Int) : clamp8 x = BitVec.ofNat 8 (max 0 (min 255 x)).toNat := by
  unfold clamp8
  split_ifs with hneg hbig
  · rw [max_eq_left (by omega)]
    rfl
  · rw [min_eq_left (by omega)]
    rfl
  · rw [min_eq_right (by omega), max_eq_right (by omega)]
    exact BitVec.eq_of_toNat_eq (by rw [BitVec.toNat_ofInt, BitVec.toNat_ofNat]; omega)

theorem clamp8_of_nonpos {x : Int} (h : x ≤ 0) : clamp8 x = 0#8 := by
  rw [clamp8_eq_max_min, max_eq_left (by omega)]
  rfl

/-- R202: the floored and the truncated quotient differ on negative sums alone, and there neither is
positive, so both saturate to 0. -/
theorem clamp8_tdiv_256 (x : Int) : clamp8 (x.tdiv 256) = clamp8 (x / 256) := by
  rcases le_total 0 x with h | h
  · rw [Int.tdiv_eq_ediv_of_nonneg h]
  · have htrunc : 0 ≤ (-x).tdiv 256 := Int.tdiv_nonneg (by omega) (by decide)
    rw [Int.neg_tdiv] at htrunc
    rw [clamp8_of_nonpos (by omega), clamp8_of_nonpos (by omega)]

theorem convert_eq_clamp8_ediv (y u v : Nat) :
    convert y u v =
      ⟨clamp8 (sumR y v / 256), clamp8 (sumG y u v / 256), clamp8 (sumB y u / 256)⟩ := by
  simp [convert, Int.shiftRight_eq_div_pow]

/-! ### The ranges of the sums over all samples (R202) -/

section Ranges

variable {y u v : Nat}

theorem sumR_range (hy : y < 256) (hv : v < 256) : -56992 ≤ sumR y v ∧ sumR y v ≤ 123293 := by
  unfold sumR; omega

theorem sumG_range (hy : y < 256) (hu : u < 256) (hv : v < 256) :
    -43756 ≤ sumG y u v ∧ sumG y u v ≤ 110774 := by
  unfold sumG; omega

theorem sumB_range (hy : y < 256) (hu : u < 256) : -70688 ≤ sumB y u ∧ sumB y u ≤ 136882 := by
  unfold sumB; omega

end Ranges

/-- Settles O17: each sum is linear in its samples, so its range is its value at the corners; and the two
kinds of shift agree after saturation. -/
theorem shiftKindDoesNotMatter : Obligations.ShiftKindDoesNotMatter := by
  refine ⟨fun y u v hy hu hv => ?_, by decide⟩
  have hR := sumR_range hy hv
  have hG := sumG_range hy hu hv
  have hB := sumB_range hy hu
  refine ⟨fun x hx => by omega, hR, hG, hB, ?_⟩
  simp only [convert_eq_clamp8_ediv, clamp8_tdiv_256, and_self]

/-! ### The packed pixel (R203) -/

/-- `pack565` is its three fields side by side: a bit of the packed pixel is one bit of one component. -/
theorem pack565_eq_append (c : Rgb) :
    pack565 c = c.r.extractLsb' 3 5 ++ c.g.extractLsb' 2 6 ++ c.b.extractLsb' 3 5 := by
  refine BitVec.eq_of_getLsbD_eq (w := 5 + 6 + 5) fun i hi => ?_
  rw [BitVec.getLsbD_append, BitVec.getLsbD_append]
  interval_cases i <;> simp [pack565]

theorem toNat_append_eq_add {m n : Nat} (hi : BitVec m) (lo : BitVec n) :
    (hi ++ lo).toNat = hi.toNat * 2 ^ n + lo.toNat := by
  rw [BitVec.toNat_append, ← Nat.shiftLeft_add_eq_or_of_lt lo.isLt, Nat.shiftLeft_eq]

theorem pack565_toNat (c : Rgb) :
    (pack565 c).toNat = c.r.toNat / 8 * 2048 + c.g.toNat / 4 * 32 + c.b.toNat / 8 := by
  have hr := c.r.isLt
  have hg := c.g.isLt
  have hb := c.b.isLt
  simp only [pack565_eq_append, toNat_append_eq_add, BitVec.extractLsb'_toNat, Nat.shiftRight_eq_div_pow]
  omega

/-- Settles O18: the packed pixel is its fields side by side. -/
theorem packedPixelFields : Obligations.PackedPixelFields := by
  intro c
  refine ⟨?_, ?_, ?_, pack565_toNat c⟩ <;>
    simp only [pack565_eq_append, HAppend.hAppend, extractLsb'_append_above, extractLsb'_append_below,
      Nat.reduceLeDiff, Nat.reduceAdd, Nat.reduceSub, BitVec.extractLsb'_eq_self]

/-! ### CONVERT_PIXEL (R206) -/

/-- Layout P: the word 0x01VVUUYY holds each sample in a byte of its own (R151). -/
theorem decode_convertPixel (y u v : Byte) :
    decode (0x01#8 ++ v ++ u ++ y) = .ok (.convertPixel y.toNat u.toNat v.toNat) := by
  have hop : opcodeOf (0x01#8 ++ v ++ u ++ y) = 0x01#8 := by
    simp only [opcodeOf, HAppend.hAppend, extractLsb'_append_above, Nat.reduceLeDiff, Nat.reduceSub,
      BitVec.extractLsb'_eq_self]
  rw [decode_of_opcode_eq_one hop]
  simp only [sampleY, sampleU, sampleV, HAppend.hAppend, extractLsb'_append_above,
    extractLsb'_append_below, Nat.reduceLeDiff, Nat.reduceAdd, Nat.reduceSub, BitVec.extractLsb'_eq_self]

theorem exec_convertPixel (y u v : Nat) (s : State) :
    exec (.convertPixel y u v) s = .next { s with
      pix := ⟨(convert y u v).r, (convert y u v).g, (convert y u v).b, pack565 (convert y u v)⟩
      cmd.code := .ok
      cmd.data := 0#8
      rep.irqPend := s.rep.irqPend ||| 0b01000#5 } := rfl

/-- Settles O10: the samples come back from the word, and the registers take the transform of them. -/
theorem convertPixelLoadsTheRegisters : Obligations.ConvertPixelLoadsTheRegisters := by
  intro s y u v c d e clamp r g b
  have hconvert : convert y.toNat u.toNat v.toNat = ⟨r, g, b⟩ := by
    simp only [convert_eq_clamp8_ediv, clamp8_eq_max_min]
    rfl
  have hexec := exec_convertPixel y.toNat u.toNat v.toNat s
  rw [hconvert] at hexec
  exact ⟨decode_convertPixel y u v, _, hexec, rfl, pack565_eq_append _, rfl⟩

end Sys2Proof.Machine
end

section
/-! PROOFS. The buffer pool of 41_buffer_pool.md: which words of a layout-N opcode are its command, the three
answers of ACQUIRE, and CONVERT.END of a frame that fits its memories. -/

namespace Sys2Proof

/-! ### The words of an opcode (R150) -/

theorem opcodeOf_append (o : BitVec 8) (f : BitVec 24) : opcodeOf (o ++ f) = o := by
  simp only [opcodeOf, HAppend.hAppend, Machine.extractLsb'_append_above, Nat.reduceLeDiff,
    Nat.reduceSub, BitVec.extractLsb'_eq_self]

theorem operandOf_append (o : BitVec 8) (f : BitVec 24) : operandOf (o ++ f) = f := by
  simp only [operandOf, HAppend.hAppend, Machine.extractLsb'_append_below, Nat.reduceLeDiff,
    Nat.reduceAdd, BitVec.extractLsb'_eq_self]

/-- Layout N (R151): a word of these opcodes with an operand bit set is ILLEGAL. -/
theorem decode_layoutN_operand_error {o : BitVec 8} {f : BitVec 24}
    (ho : o = 0x00#8 ∨ (0x03#8 ≤ o ∧ o ≤ 0x06#8)) (hf : f ≠ 0#24) :
    ∃ e, decode (o ++ f) = .error e := by
  rw [decode_eq_error_iff, opcodeOf_append, operandOf_append]
  exact .inr (.inl ⟨ho, hf⟩)

end Sys2Proof

namespace Sys2Proof.Machine

/-! ### ACQUIRE (R242) -/

/-- R242's first case: the FSM is in Camera mode, so the pool is the session's. -/
abbrev State.cameraOwned (s : State) : Prop := s.fsm.en = true ∧ s.fsm.mode = .camera

/-- R242's second case: someone uses the pool, or a mode switch waits for it. -/
abbrev State.acquireConflict (s : State) : Prop :=
  s.sess.active = true ∨ s.pool.owner ≠ .none ∨ s.spi.busy = true ∨ s.fsm.switchPending = true

theorem exec_acquire_of_owned {s : State} (ho : s.cameraOwned) :
    exec .acquire s = .next (complete .modeOwned 0 s) :=
  congrArg Host.Outcome.next (if_pos ho)

theorem exec_acquire_of_conflict {s : State} (ho : ¬s.cameraOwned) (hc : s.acquireConflict) :
    exec .acquire s = .next (complete .ownerConflict 0 s) :=
  congrArg Host.Outcome.next ((if_neg ho).trans (if_pos hc))

theorem exec_acquire_of_free {s : State} (ho : ¬s.cameraOwned) (hc : ¬s.acquireConflict) :
    exec .acquire s = .next (complete .ok s.back.data { s with pool.owner := .host }) :=
  congrArg Host.Outcome.next ((if_neg ho).trans (if_neg hc))

/-- The index of the back buffer is `1 - FRONT` (R240). -/
theorem back_data (s : State) : s.back.data = if s.pool.front = .fb0 then 1#8 else 0#8 := by
  unfold State.back
  cases s.pool.front <;> rfl

/-- Settles O11: the three cases are the branches of R242, in their order. -/
theorem acquireTakesTheBackBuffer : Obligations.AcquireTakesTheBackBuffer := by
  refine ⟨by decide, fun f hf => decode_layoutN_operand_error (by decide) hf, fun s => ?_⟩
  refine ⟨exec_acquire_of_owned, exec_acquire_of_conflict, fun ho hc => ?_⟩
  rw [exec_acquire_of_free ho hc, back_data]
  rfl

/-! ### CONVERT.END (R245) -/

/-- The frame pass leaves the roles of the buffers, the geometry and the SPI controller alone. -/
@[simp] theorem framePass_pool (base : Nat) (k : Buf) (s : State) : (framePass base k s).pool = s.pool := by
  rw [framePass_frame]

@[simp] theorem framePass_geom (base : Nat) (k : Buf) (s : State) : (framePass base k s).geom = s.geom := by
  rw [framePass_frame]

@[simp] theorem framePass_spi (base : Nat) (k : Buf) (s : State) : (framePass base k s).spi = s.spi := by
  rw [framePass_frame]

theorem workerStep_of_convert {s : State} (h : s.sess.phase = .convert) :
    workerStep s = convertEnd s := by
  simp only [workerStep, State.workerOp, h]

/-- The two faults of CONVERT.END are its only other outcomes, so a frame that fits both memories is
painted and presented. -/
theorem convertEnd_of_fits {s : State}
    (hsrc : s.source.frameBase.toNat + s.frameSize ≤ s.params.srcBytes)
    (hfb : 2 * s.pixels ≤ s.params.fbBytes) :
    convertEnd s = .next
      { spiStart s.back .worker (commitAndSwap (framePass s.source.frameBase.toNat s.back s)) with
        sess.phase := .present } := by
  obtain ⟨t, ht⟩ : ∃ t, convertEnd s = .next t :=
    ⟨_, (if_neg (Nat.not_lt.2 hsrc)).trans (if_neg (Nat.not_lt.2 hfb))⟩
  obtain ⟨-, -, rfl⟩ := convertEnd_next ht
  exact ht

/-- Settles O21: the step is CONVERT.END, it does not fault, and the frame pass kept what the swap and the
start of the present read. -/
theorem convertEndPresentsThePaintedBuffer : Obligations.ConvertEndPresentsThePaintedBuffer := by
  intro s hphase hsrc hfb painted
  rw [workerStep_of_convert hphase, convertEnd_of_fits hsrc hfb]
  simp [painted, State.back, State.pixels]

end Sys2Proof.Machine
end

section
/-! PROOFS. The frame source of 42_frame_source.md: the stream input port, FETCH of a Stream session, and
what every agent but the producer leaves alone while that fetch waits. -/

namespace Sys2Proof.Machine

/-! ### The stream input port (R284, R286, R569) -/

theorem sReady_iff (s : State) :
    s.sReady = true ↔ s.sess.active = true ∧ s.sess.kind = .stream ∧ s.sess.phase = .fetch ∧
      s.source.acc.toNat < s.frameSize ∧ s.source.streamEnd = .none := by
  simp [State.sReady, and_assoc]

theorem pushByte_of_ready {s : State} {x : Byte} {rest : List Byte}
    (ho : s.source.offered = x :: rest) (hr : s.sReady = true)
    (hsrc : s.source.acc.toNat < s.params.srcBytes) :
    pushByte s = .next { s with
      srcMem := s.srcMem.write s.source.acc.toNat x
      source.acc := s.source.acc + 1
      source.offered := rest } := by
  simp [pushByte, ho, hr, hsrc]

/-- R569: whether a byte waits at the port or not, a port that is not ready moves nothing. -/
theorem pushByte_of_not_ready {s : State} (hr : ¬s.sReady = true) : pushByte s = .next s := by
  unfold pushByte
  split
  · rfl
  · exact if_neg hr

/-- Settles O24: PUSH by whether the port is ready, and a pulse by whether the latch takes it. -/
theorem streamPortTakesBytesAndPulses : Obligations.StreamPortTakesBytesAndPulses := by
  intro s x rest fs ready latches
  have hready : s.sReady = true ↔ ready := sReady_iff s
  refine ⟨hready, fun ho hr hsrc => ?_, fun hr => pushByte_of_not_ready (hready.not.2 hr),
    fun hl => ?_, fun hl => ?_⟩
  · exact ⟨_, pushByte_of_ready ho (hready.2 hr) hsrc, Memory.read_write_same _ _ _,
      fun a ha => Memory.read_write_other _ _ ha, rfl⟩
  · exact ⟨congrArg Host.Outcome.next (if_pos hl), congrArg Host.Outcome.next (if_pos hl)⟩
  · exact ⟨congrArg Host.Outcome.next (if_neg hl), congrArg Host.Outcome.next (if_neg hl)⟩

/-! ### FETCH of a Stream session (R285, R287, R288) -/

section StreamFetch

variable {s : State}

/-- A complete frame comes before the latch, and an incomplete one fails only once the stream ended. -/
theorem workerOp_of_streamFetch (ha : s.sess.active = true) (hk : s.sess.kind = .stream)
    (hp : s.sess.phase = .fetch) :
    s.workerOp =
      if s.source.acc.toNat = s.frameSize then some .fetchStreamDone
      else if s.source.streamEnd ≠ .none ∧ s.source.acc.toNat < s.frameSize then some .fetchStreamFail
      else none := by
  simp [State.workerOp, ha, hk, hp]

theorem workerStep_of_streamComplete (ha : s.sess.active = true) (hk : s.sess.kind = .stream)
    (hp : s.sess.phase = .fetch) (hacc : s.source.acc.toNat = s.frameSize) :
    workerStep s = .next (fetchStreamDone s) := by
  rw [workerStep, workerOp_of_streamFetch ha hk hp, if_pos hacc]

theorem workerStep_of_streamEnded (ha : s.sess.active = true) (hk : s.sess.kind = .stream)
    (hp : s.sess.phase = .fetch) (he : s.source.streamEnd ≠ .none)
    (hacc : s.source.acc.toNat < s.frameSize) :
    workerStep s = .next (sessionEnd (.fatal (streamFailCause s)) s) := by
  rw [workerStep, workerOp_of_streamFetch ha hk hp, if_neg hacc.ne, if_pos ⟨he, hacc⟩]
  rfl

/-- R288: no step of the stream fetch is enabled. -/
theorem workerStep_of_streamStalled (ha : s.sess.active = true) (hk : s.sess.kind = .stream)
    (hp : s.sess.phase = .fetch) (he : s.source.streamEnd = .none)
    (hacc : s.source.acc.toNat < s.frameSize) : workerStep s = .next s := by
  rw [workerStep, workerOp_of_streamFetch ha hk hp, if_neg hacc.ne, if_neg fun h => h.1 he]

theorem streamFailCause_of_error (he : s.source.streamEnd = .error) : streamFailCause s = .closed :=
  if_pos he

theorem streamFailCause_of_closed (he : s.source.streamEnd = .closed) :
    streamFailCause s = if s.source.acc = 0 then .closed else .shortRead := by
  simp [streamFailCause, he]

end StreamFetch

/-- Settles O23: the two guards of R285 and R287, and the cause by R287's table. -/
theorem streamFetchCompletesOrFails : Obligations.StreamFetchCompletesOrFails := by
  intro s ha hk hp fs
  have hfail (he : s.source.streamEnd ≠ .none) (hacc : s.source.acc.toNat < fs) :
      workerStep s = .next (sessionEnd (.fatal (streamFailCause s)) s) :=
    workerStep_of_streamEnded ha hk hp he hacc
  refine ⟨fun hacc => ?_, fun he hacc => ?_, fun he hacc hfs => ?_, fun he hpos hacc => ?_⟩
  · rw [workerStep_of_streamComplete ha hk hp hacc]
    rfl
  · rw [hfail (by simp [he]) hacc, streamFailCause_of_error he]
  · have hzero : s.source.acc = 0 := BitVec.eq_of_toNat_eq hacc
    rw [hfail (by simp [he]) (hacc ▸ hfs), streamFailCause_of_closed he, if_pos hzero]
  · have hzero : s.source.acc ≠ 0 := fun h => by simp [h] at hpos
    rw [hfail (by simp [he]) hacc, streamFailCause_of_closed he, if_neg hzero]

/-! ### What a stalled fetch rests on -/

theorem eq_of_next_of_next {o : Host.Outcome State Fault Refusal} {t u : State} (h : o = .next t)
    (e : o = .next u) : t = u :=
  Host.Outcome.next.inj (h.symm.trans e)

/-- The fields that the guards of R284, R285 and R287 read. -/
structure FetchView where
  active : Bool
  kind : Kind
  phase : WPhase
  streamEnd : StreamEnd
  acc : Word
  width : BitVec 16
  height : BitVec 16

def State.fetchView (s : State) : FetchView where
  active := s.sess.active
  kind := s.sess.kind
  phase := s.sess.phase
  streamEnd := s.source.streamEnd
  acc := s.source.acc
  width := s.geom.width
  height := s.geom.height

/-- From `s` to `t` the fetch's guards read the same, and a pending STOP is untouched. -/
structure KeepsFetch (s t : State) : Prop where
  view : t.fetchView = s.fetchView
  pendingStop : s.cmd.pending = .stop → t.cmd = s.cmd

namespace KeepsFetch

theorem of_eq {s t : State} (hv : t.fetchView = s.fetchView) (hc : t.cmd = s.cmd) : KeepsFetch s t :=
  ⟨hv, fun _ => hc⟩

theorem refl (s : State) : KeepsFetch s s := of_eq rfl rfl

theorem of_next {o : Host.Outcome State Fault Refusal} {s t u : State} (h : o = .next t)
    (e : o = .next u) (hu : KeepsFetch s u) : KeepsFetch s t :=
  eq_of_next_of_next h e ▸ hu

end KeepsFetch

/-! ### Commands -/

theorem startSession_fetchView {s : State} (ha : s.sess.active = true) (k : Kind) :
    (startSession k s).fetchView = s.fetchView := by
  rcases startSession_cases k s with ⟨c, -, -, e⟩ | ⟨hidle, -⟩
  · rw [e]
    rfl
  · exact absurd (ha.symm.trans hidle) (by decide)

/-- While a session is Active no command writes what the fetch reads: a START is refused, and STOP sets
the cancellation flag alone. -/
theorem exec_fetchView {i : Instr} {s t : State} (ha : s.sess.active = true)
    (h : exec i s = .next t) : t.fetchView = s.fetchView := by
  have of_next {u : State} (e : exec i s = .next u) (hu : u.fetchView = s.fetchView) :
      t.fetchView = s.fetchView := eq_of_next_of_next h e ▸ hu
  cases i with
  | nop | convertPixel | clearErr => exact of_next rfl rfl
  | startFile | startStream => exact of_next rfl (startSession_fetchView ha _)
  | stop => rcases execStop_cases s with ⟨c, -, -, e⟩ | ⟨-, -, e⟩ <;> exact of_next e rfl
  | acquire => rcases execAcquire_cases s with ⟨c, -, -, e⟩ | ⟨-, -, -, -, e⟩ <;> exact of_next e rfl
  | commit => rcases execCommit_cases s with e | ⟨-, e⟩ <;> exact of_next e rfl

theorem issue_fetchView {w : Word} {s t : State} (ha : s.sess.active = true)
    (h : issue w s = .next t) : t.fetchView = s.fetchView := by
  rcases issue_cases w s with ⟨i, -, e⟩ | e <;> rw [e] at h
  · exact exec_fetchView (s := latchOpcode w s) ha h
  · rw [← Host.Outcome.next.inj h]
    rfl

/-! ### Register writes: WIDTH and HEIGHT are locked within a session, no other register holds a size -/

theorem writeCtrl_size (v : Word) (s : State) :
    (writeCtrl v s).geom.width = s.geom.width ∧ (writeCtrl v s).geom.height = s.geom.height := by
  rw [writeCtrl_frame]
  exact ⟨rfl, rfl⟩

@[simp] theorem writeFileLen_geom (v : Word) (s : State) : (writeFileLen v s).geom = s.geom := by
  unfold writeFileLen; split <;> rfl

@[simp] theorem writeDebInterval_geom (v : Word) (s : State) :
    (writeDebInterval v s).geom = s.geom := by
  unfold writeDebInterval; split <;> rfl

@[simp] theorem writeDebCount_geom (v : Word) (s : State) : (writeDebCount v s).geom = s.geom := by
  unfold writeDebCount; split <;> rfl

@[simp] theorem writeHoldMin_geom (v : Word) (s : State) : (writeHoldMin v s).geom = s.geom := by
  unfold writeHoldMin; split <;> rfl

@[simp] theorem writeSpiCtrl_geom (v : Word) (s : State) : (writeSpiCtrl v s).geom = s.geom := by
  unfold writeSpiCtrl; split <;> rfl

theorem writeReg_size {o : Nat} (hw : o ≠ 0x020) (hh : o ≠ 0x024) (v : Word) (s : State) :
    (writeReg o v s).geom.width = s.geom.width ∧ (writeReg o v s).geom.height = s.geom.height := by
  unfold writeReg
  split
  case h_1 => exact writeCtrl_size v s
  case h_4 => exact absurd rfl hw
  case h_5 => exact absurd rfl hh
  all_goals simp

/-- R48, R49: the lock of the two size registers holds while a session is Active. -/
theorem not_size_register_of_unlocked {o : Nat} {v : Word} {s : State} (ha : s.sess.active = true)
    (hl : regLocked o v s = false) : o ≠ 0x020 ∧ o ≠ 0x024 := by
  have hlock : ¬s.geomLocked = false := by simp [State.geomLocked, ha]
  constructor <;> rintro rfl <;> exact hlock hl

theorem writeReg_keepsFetch {o : Nat} {v : Word} {s : State} (ha : s.sess.active = true)
    (hl : regLocked o v s = false) : KeepsFetch s (replyOk 0 (writeReg o v s)) := by
  obtain ⟨hw, hh⟩ := not_size_register_of_unlocked ha hl
  obtain ⟨hwidth, hheight⟩ := writeReg_size hw hh v s
  rw [writeReg_frame]
  exact .of_eq (by simp [State.fetchView, hwidth, hheight]) rfl

/-! ### The agents -/

theorem hostRead_keepsFetch (a : Word) (n : Size) (s : State) : KeepsFetch s (hostRead a n s) := by
  rcases hostRead_cases a n s with e | ⟨x, d, e, -⟩ <;> rw [e] <;> exact .of_eq rfl rfl

/-- A pending STOP makes CMD refuse its words (R157), so a word is issued only where none is pending. -/
theorem hostStep_keepsFetch {op : HostOp} {s t : State} (ha : s.sess.active = true)
    (h : hostStep op s = .next t) : KeepsFetch s t := by
  cases op with
  | read a n => exact .of_next h rfl (hostRead_keepsFetch a n s)
  | write a n v =>
    rw [hostStep] at h
    rcases hostWrite_cases a n v s with e | ⟨-, hidle, e⟩ | ⟨-, -, hl, e⟩ | ⟨-, o, e⟩ | ⟨hend, -⟩
    · exact .of_next h e (.of_eq rfl rfl)
    · exact ⟨issue_fetchView ha (e ▸ h), fun hstop => absurd (hidle.symm.trans hstop) (by decide)⟩
    · exact .of_next h e (writeReg_keepsFetch ha hl)
    · exact .of_next h e (.of_eq (by simp [State.fetchView]) (by simp))
    · exact absurd (ha.symm.trans hend) (by decide)

theorem programStep_keepsFetch {s t : State} (ha : s.sess.active = true)
    (h : programStep s = .next t) : KeepsFetch s t := by
  rcases programStep_cases s with ⟨p, sch, e⟩ | ⟨a, m, v, rest, -, ⟨-, e⟩ | ⟨-, e⟩⟩ | ⟨op, p, e⟩
  · exact .of_next h e (.of_eq rfl rfl)
  · obtain ⟨hview, hstop⟩ := hostRead_keepsFetch a .b4 s
    exact .of_next h e ⟨hview, hstop⟩
  · exact .of_next h e (hostRead_keepsFetch a .b4 s)
  · obtain ⟨hview, hstop⟩ := hostStep_keepsFetch (s := { s with program := p }) ha (e ▸ h)
    exact ⟨hview, hstop⟩

theorem tickStep_keepsFetch (b : Bool) (s : State) : KeepsFetch s (tickStep b s) := by
  rw [tickStep_frame]
  exact .of_eq rfl rfl

/-- The end of a present completes a COMMIT alone (R373). -/
theorem spiEnd_keepsFetch (s : State) : KeepsFetch s (spiEnd s) := by
  rcases spiEnd_cases s with ⟨-, hcommit, e⟩ | ⟨-, e⟩ <;> rw [e]
  · exact ⟨rfl, fun hstop => absurd (hcommit.symm.trans hstop) (by decide)⟩
  · exact .of_eq rfl rfl

theorem spiStep_keepsFetch {s t : State} (h : spiStep s = .next t) : KeepsFetch s t := by
  rcases spiStep_next h with rfl | ⟨-, -, rfl⟩ | ⟨-, -, -, -, rfl⟩ | ⟨-, -, -, rfl⟩
  · exact .refl _
  · exact .of_eq rfl rfl
  · exact .of_eq rfl rfl
  · exact spiEnd_keepsFetch s

/-- A mode switch waits for the end of the session (R436). -/
theorem modeswStep_of_active {s : State} (ha : s.sess.active = true) : modeswStep s = s := by
  rcases modeswStep_cases s with e | ⟨-, hend, -⟩
  · exact e
  · exact absurd (ha.symm.trans hend) (by decide)

/-- One case per agent: the worker has no enabled step, and the others do not write what its guards read. -/
theorem runEvent_keepsFetch_of_streamStalled {s t : State} {e : Event} (ha : s.sess.active = true)
    (hk : s.sess.kind = .stream) (hp : s.sess.phase = .fetch) (hend : s.source.streamEnd = .none)
    (hacc : s.source.acc.toNat < s.frameSize) (hr : e ≠ .reset) (hprod : ∀ a, e ≠ .producer a)
    (h : runEvent e s = .next t) : KeepsFetch s t := by
  cases e with
  | tick b => exact .of_next h rfl (tickStep_keepsFetch b s)
  | host op => exact hostStep_keepsFetch ha h
  | program => exact programStep_keepsFetch ha h
  | worker => exact .of_next h (workerStep_of_streamStalled ha hk hp hend hacc) (.refl s)
  | spi => exact spiStep_keepsFetch h
  | modesw => exact .of_next h (congrArg Host.Outcome.next (modeswStep_of_active ha)) (.refl s)
  | producer a => exact absurd rfl (hprod a)
  | reset => exact absurd rfl hr

/-- Settles O25: the fetch's guards read the same after the event, so the stall persists. -/
theorem stalledProducerHoldsTheWorker : Obligations.StalledProducerHoldsTheWorker := by
  intro s t e ha hk hp hend hacc hr hprod h
  obtain ⟨hview, hstop⟩ := runEvent_keepsFetch_of_streamStalled ha hk hp hend hacc hr hprod h
  simp only [State.fetchView, FetchView.mk.injEq] at hview
  obtain ⟨hactive, hkind, hphase, hlatch, hcnt, hwidth, hheight⟩ := hview
  exact ⟨hactive.trans ha, hkind.trans hk, hphase.trans hp, hlatch.trans hend, hcnt, hwidth, hheight,
    hstop⟩

end Sys2Proof.Machine
end

section
/-! PROOFS. The session sequencer of 43_session.md: the words of START and its answers in R321's order, the
turns of the pacing loop, PRESENT.DONE, and the end of a session by its reason. -/

namespace Sys2Proof

/-! ### The words of START (R151, R153) -/

/-- Layout S: a word of START with one of bits 23:1 set is ILLEGAL. -/
theorem decode_start_operand_error {f : BitVec 24} (hf : f.extractLsb' 1 23 ≠ 0#23) :
    ∃ e, decode (0x02#8 ++ f) = .error e := by
  have hbits : (0x02#8 ++ f : Word).extractLsb' 1 23 = f.extractLsb' 1 23 := by
    simp only [HAppend.hAppend, Machine.extractLsb'_append_below, Nat.reduceLeDiff, Nat.reduceAdd]
  exact (decode_eq_error_iff _).2 (.inr (.inr ⟨opcodeOf_append _ _, hbits ▸ hf⟩))

end Sys2Proof

namespace Sys2Proof.Machine

/-! ### START (R321) -/

/-- R321's first case: the FSM owns the mode, and this START is not the Stream session of its Camera mode. -/
abbrev State.startOwned (k : Kind) (s : State) : Prop :=
  s.fsm.en = true ∧ ¬(s.fsm.mode = .camera ∧ k = .stream ∧ s.fsm.switchPending = false)

/-- R321's third case: a buffer is owned, or a present runs. -/
abbrev State.startConflict (s : State) : Prop := s.pool.owner ≠ .none ∨ s.spi.busy = true

section Start

variable {k : Kind} {s : State}

theorem startSession_of_owned (ho : s.startOwned k) : startSession k s = complete .modeOwned 0 s :=
  if_pos ho

theorem startSession_of_active (ho : ¬s.startOwned k) (ha : s.sess.active = true) :
    startSession k s = complete .alreadyActive 0 s :=
  (if_neg ho).trans (if_pos ha)

theorem startSession_of_conflict (ho : ¬s.startOwned k) (ha : s.sess.active = false)
    (hc : s.startConflict) : startSession k s = complete .ownerConflict 0 s :=
  (if_neg ho).trans ((if_neg (by simp [ha])).trans (if_pos hc))

theorem startSession_of_free (ho : ¬s.startOwned k) (ha : s.sess.active = false)
    (hc : ¬s.startConflict) : startSession k s = complete .ok 0 (sessionBegin k s) :=
  (if_neg ho).trans ((if_neg (by simp [ha])).trans (if_neg hc))

end Start

theorem startOwned_file_iff (s : State) : s.startOwned .file ↔ s.fsm.en = true := by
  simp [State.startOwned]

theorem startOwned_stream_iff (s : State) :
    s.startOwned .stream ↔
      s.fsm.en = true ∧ ¬(s.fsm.mode = .camera ∧ s.fsm.switchPending = false) := by
  simp [State.startOwned]

/-- Settles O13: the four cases of each kind are the branches of R321, in their order. -/
theorem startBeginsASession : Obligations.StartBeginsASession := by
  refine ⟨by decide, by decide, fun f hf => decode_start_operand_error hf, fun s => ?_⟩
  intro camera conflict refused begun
  have hfile (he : s.fsm.en = false) : ¬s.startOwned .file := by simp [startOwned_file_iff, he]
  have hstream (he : s.fsm.en = false ∨ camera) : ¬s.startOwned .stream := by
    rw [startOwned_stream_iff]
    rintro ⟨hen, hcam⟩
    rcases he with he | he
    · exact absurd (hen.symm.trans he) (by decide)
    · exact hcam he
  have answers {k : Kind} {t : State} (h : startSession k s = t) :
      (Host.Outcome.next (startSession k s) : Host.Outcome State Fault Refusal) = .next t :=
    congrArg Host.Outcome.next h
  exact
    ⟨fun he => answers (startSession_of_owned ((startOwned_file_iff s).2 he)),
      fun he ha => answers (startSession_of_active (hfile he) ha),
      fun he ha hc => answers (startSession_of_conflict (hfile he) ha hc),
      fun he ha hc => answers (startSession_of_free (hfile he) ha hc),
      fun he hcam => answers (startSession_of_owned ((startOwned_stream_iff s).2 ⟨he, hcam⟩)),
      fun he ha => answers (startSession_of_active (hstream he) ha),
      fun he ha hc => answers (startSession_of_conflict (hstream he) ha hc),
      fun he ha hc => answers (startSession_of_free (hstream he) ha hc)⟩

/-! ### The pacing loop (R326, R331, R332) -/

section PacingLoop

variable {s : State}

theorem workerStep_of_top (hp : s.sess.phase = .top) : workerStep s = .next (topStep s) := by
  simp only [workerStep, State.workerOp, hp]

theorem workerStep_of_presenting (hp : s.sess.phase = .present) (hb : s.spi.busy = true) :
    workerStep s = .next s := by
  simp [workerStep, State.workerOp, hp, hb]

theorem workerStep_of_presented (hp : s.sess.phase = .present) (hb : s.spi.busy = false) :
    workerStep s = .next (presentDone s) := by
  simp [workerStep, State.workerOp, hp, hb]

theorem workerStep_of_paceDue (hp : s.sess.phase = .pace) (hd : s.paceDue = true) :
    workerStep s = .next (paceStep s) := by
  simp [workerStep, State.workerOp, hp, hd]

theorem workerStep_of_not_paceDue (hp : s.sess.phase = .pace) (hd : ¬s.paceDue = true) :
    workerStep s = .next s := by
  simp [workerStep, State.workerOp, hp, hd]

end PacingLoop

/-- R332's guard in naturals: the subtraction is modulo 2^32. -/
theorem paceDue_iff (s : State) :
    s.paceDue = true ↔
      s.sess.framePeriod.toNat ≤ (s.cycle.toNat + 2 ^ 32 - s.sess.t0.toNat) % 2 ^ 32 := by
  have helapsed : (s.cycle - s.sess.t0).toNat =
      (s.cycle.toNat + 2 ^ 32 - s.sess.t0.toNat) % 2 ^ 32 := by
    have ht0 := s.sess.t0.isLt
    rw [BitVec.toNat_sub, ← Nat.sub_add_comm ht0.le, Nat.add_comm]
  rw [State.paceDue, decide_eq_true_iff, helapsed]

/-- Settles O27: TOP by the cancellation flag, PACE by its guard. -/
theorem pacingLoopTurns : Obligations.PacingLoopTurns := by
  intro s
  refine ⟨fun hp hc => ?_, fun hp hc => ?_, fun hp hd => ?_, fun hp hd => ?_⟩
  · rw [workerStep_of_top hp, topStep, if_pos hc]
  · rw [workerStep_of_top hp, topStep, if_neg (by simp [hc])]
    rfl
  · rw [workerStep_of_paceDue hp ((paceDue_iff s).2 hd)]
    rfl
  · exact workerStep_of_not_paceDue hp fun hdue => hd.not_ge ((paceDue_iff s).1 hdue)

/-- Settles O28: the guard of PRESENT.DONE is that no present runs. -/
theorem presentDoneCountsTheFrame : Obligations.PresentDoneCountsTheFrame :=
  fun _ hp => ⟨workerStep_of_presenting hp, workerStep_of_presented hp⟩

/-! ### The end of a session (R335) -/

/-- The error record is `recordError`'s, whether a STOP completes or not. -/
theorem sessionEnd_err (r : EndReason) (s : State) : (sessionEnd r s).err = (recordError r s).err := by
  cases r with
  | stopped => exact sessionEnd_stopped_err s
  | fatal c => exact sessionEnd_fatal_err s c

/-- SESSION_END is raised, and CMD_DONE too where a STOP completes. -/
theorem sessionEnd_irqPend (r : EndReason) (s : State) :
    (sessionEnd r s).rep.irqPend =
      if s.cmd.pending = .stop then s.rep.irqPend ||| Irq.sessionEnd.mask ||| Irq.cmdDone.mask
      else s.rep.irqPend ||| Irq.sessionEnd.mask := by
  by_cases h : s.cmd.pending = .stop <;> simp [sessionEnd, completeStop, h]

/-- At R335's call sites a session is Active and not in CONVERT or PRESENT, so the pool is released and no
present runs. -/
theorem ArbiterInv.pool_free_of_top_or_fetch {s : State} (hinv : ArbiterInv s)
    (hp : s.sess.phase = .top ∨ s.sess.phase = .fetch) :
    s.pool.owner = .none ∧ s.spi.busy = false := by
  obtain ⟨hidle, hconvert, hpresent⟩ :
      s.sess.phase ≠ .idle ∧ s.sess.phase ≠ .convert ∧ s.sess.phase ≠ .present := by
    rcases hp with hp | hp <;> simp [hp]
  have hactive : s.sess.active = true := hinv.phaseActive.1 hidle
  constructor
  · cases howner : s.pool.owner with
    | none => rfl
    | worker => exact absurd (hinv.workerOwns.1 howner) hconvert
    | host => exact absurd (hactive.symm.trans (hinv.hostOwns howner)) (by decide)
  · refine Bool.eq_false_iff.2 fun hbusy => ?_
    rcases hinv.presentPhase hbusy with h | h
    · exact hidle h
    · exact hpresent h

theorem switchReady_sessionEnd {s : State} (ho : s.pool.owner = .none) (hb : s.spi.busy = false)
    (r : EndReason) : (sessionEnd r s).switchReady = s.fsm.switchPending := by
  simp [State.switchReady, ho, hb]

/-- Settles O26: what the end writes, field by field, and what the arbiter's invariants give at its call
sites. -/
theorem sessionEndRecordsTheReason : Obligations.SessionEndRecordsTheReason := by
  intro s r pend
  refine ⟨?_, fun hinv hp => ?_⟩
  · rw [sessionEnd_frame, sessionEnd_sess, sessionEnd_cmd, sessionEnd_err, sessionEnd_irqPend]
    cases r <;> split_ifs <;> rfl
  · obtain ⟨howner, hbusy⟩ := hinv.pool_free_of_top_or_fetch hp
    exact ⟨howner, hbusy, switchReady_sessionEnd howner hbusy r⟩

end Sys2Proof.Machine
end

section
/-! PROOFS. The SPI display controller of 44_spi_display.md: the end of a present. -/

namespace Sys2Proof.Machine

/-! ### The end of a present (R373) -/

section PresentEnd

variable {s : State}

theorem spiOp_of_sent (hb : s.spi.busy = true) (hc : s.spi.cmdPhase = false)
    (hi : s.spi.idx = s.spi.len) : s.spiOp = some .finish := by
  simp [State.spiOp, hb, hc, hi]

theorem spiStep_of_sent (hb : s.spi.busy = true) (hc : s.spi.cmdPhase = false)
    (hi : s.spi.idx = s.spi.len) : spiStep s = .next (spiEnd s) := by
  rw [spiStep, spiOp_of_sent hb hc hi]

theorem workerOp_of_presented (hp : s.sess.phase = .present) (hb : s.spi.busy = false) :
    s.workerOp = some .presentDone := by
  simp [State.workerOp, hp, hb]

end PresentEnd

/-- Settles O30: the two cases of `spiEnd_cases`, and a released controller is the guard of
PRESENT.DONE. -/
theorem presentEndCompletesCommit : Obligations.PresentEndCompletesCommit := by
  intro s hb hc hi commits t
  have hend : spiEnd s = t := by
    rcases spiEnd_cases s with ⟨hsrc, hpending, e⟩ | ⟨hnot, e⟩ <;> rw [e]
    · have h : commits := ⟨hsrc, hpending⟩
      simp only [t, if_pos h]
      rfl
    · simp only [t, if_neg (show ¬commits from hnot)]
      rfl
  exact ⟨(spiStep_of_sent hb hc hi).trans (congrArg _ hend), fun hp => workerOp_of_presented hp rfl⟩

end Sys2Proof.Machine
end

section
/-! PROOFS. The debouncer of 45_debouncer.md: the writes of its two registers, and the first sample of a
restarted window. -/

namespace Sys2Proof.Machine

/-! ### The writes of DEB_INTERVAL and DEB_COUNT (R56, R57, R403) -/

section DebounceWrite

variable {v : Word} {s : State}

theorem writeDebInterval_legal (h : v.extractLsb' 0 16 ≠ 0#16) :
    writeDebInterval v s = restartWindow { s with deb.interval := v.extractLsb' 0 16 } :=
  if_pos h

theorem writeDebInterval_illegal (h : v.extractLsb' 0 16 = 0#16) : writeDebInterval v s = s :=
  if_neg (not_not_intro h)

theorem writeDebCount_legal (h : v.extractLsb' 0 8 ≠ 0#8) :
    writeDebCount v s = restartWindow { s with deb.count := v.extractLsb' 0 8 } :=
  if_pos h

theorem writeDebCount_illegal (h : v.extractLsb' 0 8 = 0#8) : writeDebCount v s = s :=
  if_neg (not_not_intro h)

end DebounceWrite

/-- R56: DEB_INTERVAL has no lock. -/
theorem hostWrite_debInterval (v : Word) (s : State) :
    hostWrite 0x00000040#32 .b4 v s = .next (replyOk 0 (writeDebInterval v s)) :=
  hostWrite_register_unlocked (by decide) (by decide) (by decide) rfl

/-- R57: DEB_COUNT has no lock. -/
theorem hostWrite_debCount (v : Word) (s : State) :
    hostWrite 0x00000044#32 .b4 v s = .next (replyOk 0 (writeDebCount v s)) :=
  hostWrite_register_unlocked (by decide) (by decide) (by decide) rfl

/-! ### The debouncer over one TICK (R17, R401) -/

@[simp] theorem gestureStep_deb (w : WindowEnd) (s : State) : (gestureStep w s).deb = s.deb := by
  rw [gestureStep_frame]

@[simp] theorem dwellStep_deb (s : State) : (dwellStep s).deb = s.deb := by
  rw [dwellStep_frame]

/-- Within a TICK only the debounce step writes the debouncer, after the synchroniser (R17). -/
theorem tickStep_deb (b : Bool) (s : State) :
    (tickStep b s).deb = (debounceStep s.deb.sync2 (synchronise b s)).1.deb := by
  unfold tickStep
  dsimp only
  cases (debounceStep s.deb.sync2 (synchronise b s)).2 with
  | none => exact dwellStep_deb _
  | some w => exact (dwellStep_deb _).trans (gestureStep_deb w _)

/-- With DB_TMR = 0 the debounce step takes a sample, and the window goes on or ends with it (R401). -/
theorem debounceStep_of_due {s : State} (ht : s.deb.tmr = 0) (l : Bool) :
    (debounceStep l s).1 = takeSample l s ∨
      (debounceStep l s).1 = closeWindow (takeSample l s) := by
  unfold debounceStep
  rw [if_neg (not_not_intro ht)]
  dsimp only
  split_ifs
  · exact .inr rfl
  · exact .inl rfl

/-- The sample at the start of a window is the window's first; the end of a window of one sample keeps
it (R401). -/
theorem debounceStep_first_sample {s : State} (ht : s.deb.tmr = 0) (hk : s.deb.k = 0) (l : Bool) :
    (debounceStep l s).1.deb.pin = l ∧ (debounceStep l s).1.deb.first = l := by
  have hfirst : (takeSample l s).deb.first = l := if_pos hk
  rcases debounceStep_of_due ht l with e | e <;> rw [e] <;> exact ⟨rfl, hfirst⟩

/-- R403: the TICK after a restart takes the synchronised level as the first sample of a new window. -/
theorem tickStep_first_sample {s : State} (ht : s.deb.tmr = 0) (hk : s.deb.k = 0) (b : Bool) :
    (tickStep b s).deb.pin = s.deb.sync2 ∧ (tickStep b s).deb.first = s.deb.sync2 := by
  rw [tickStep_deb]
  exact debounceStep_first_sample (s := synchronise b s) ht hk s.deb.sync2

/-- Settles O34: each write by its legality; a legal one leaves the window at its start. -/
theorem debounceWritesRestartTheWindow : Obligations.DebounceWritesRestartTheWindow := by
  intro s v restarts
  refine ⟨fun h => ⟨?_, tickStep_first_sample rfl rfl⟩, fun h => ?_,
    fun h => ⟨?_, tickStep_first_sample rfl rfl⟩, fun h => ?_⟩
  · rw [hostWrite_debInterval, writeDebInterval_legal h]
    rfl
  · rw [hostWrite_debInterval, writeDebInterval_illegal h]
    rfl
  · rw [hostWrite_debCount, writeDebCount_legal h]
    rfl
  · rw [hostWrite_debCount, writeDebCount_illegal h]
    rfl

end Sys2Proof.Machine
end

section
/-! PROOFS. The mode-select FSM of 46_mode_fsm.md: the gesture step, the TICK and its dwell step, and which
event can change MODE. -/

namespace Sys2Proof.Machine

/-! ### The saturating counters HOLD_CNT and DWELL (R433, R438) -/

/-- A counter that stops at its largest value, in naturals. -/
theorem saturatingIncr_eq_ofNat {n : Nat} (x : BitVec n) :
    (if x = BitVec.allOnes n then BitVec.allOnes n else x + 1) =
      BitVec.ofNat n (min (x.toNat + 1) (2 ^ n - 1)) := by
  have hx := x.isLt
  apply BitVec.eq_of_toNat_eq
  split_ifs with h
  · subst h
    simp only [BitVec.toNat_allOnes, BitVec.toNat_ofNat]
    rw [min_eq_right (by omega), Nat.mod_eq_of_lt (by omega)]
  · have hlt : x.toNat + 1 ≤ 2 ^ n - 1 := by
      have hne : x.toNat ≠ 2 ^ n - 1 := fun e => h (BitVec.eq_of_toNat_eq (by simp [e]))
      omega
    rw [min_eq_left hlt]
    simp [BitVec.toNat_add]

theorem bumpHold_eq_ofNat (x : Byte) : bumpHold x = BitVec.ofNat 8 (min (x.toNat + 1) 255) :=
  saturatingIncr_eq_ofNat x

theorem bumpDwell_eq_ofNat (x : Word) :
    bumpDwell x = BitVec.ofNat 32 (min (x.toNat + 1) (2 ^ 32 - 1)) :=
  saturatingIncr_eq_ofNat x

theorem bumpDwell_toNat (x : Word) : (bumpDwell x).toNat = min (x.toNat + 1) (2 ^ 32 - 1) := by
  rw [bumpDwell_eq_ofNat, BitVec.toNat_ofNat]
  omega

/-! ### The gesture step (R433) -/

theorem Mode.other_eq_ite (m : Mode) :
    m.other = if m = .camera then .navigation else .camera := by
  cases m <;> rfl

section Gesture

variable {w : WindowEnd} {s : State}

theorem gestureStep_of_ignored
    (h : s.fsm.en = false ∨ s.fsm.switchPending = true ∨ w.r = .unstable) : gestureStep w s = s :=
  if_pos h

theorem gestureStep_of_idle (he : s.fsm.en = true) (hp : s.fsm.switchPending = false)
    (hr : w.r ≠ .unstable) (hg : s.fsm.gesture = .idle) : gestureStep w s = gestureIdle w s := by
  simp [gestureStep, he, hp, hr, hg]

/-- Pressed and Held take a window alike. -/
theorem gestureStep_of_down (he : s.fsm.en = true) (hp : s.fsm.switchPending = false)
    (hr : w.r ≠ .unstable) (hg : s.fsm.gesture ≠ .idle) : gestureStep w s = gestureDown w s := by
  cases h : s.fsm.gesture with
  | idle => exact absurd h hg
  | pressed | held => simp [gestureStep, he, hp, hr, h]

theorem gestureIdle_of_edge (hr : w.r = .high) (hp : w.p = .low) :
    gestureIdle w s =
      { s with fsm.gesture := .pressed, fsm.holdCnt := 1, fsm.lastEvent := .pressed } :=
  if_pos ⟨hr, hp⟩

theorem gestureIdle_of_no_edge (h : ¬(w.r = .high ∧ w.p = .low)) :
    gestureIdle w s = { s with fsm.lastEvent := .idle } :=
  if_neg h

theorem gestureDown_of_high (hr : w.r = .high) :
    gestureDown w s =
      { s with
        fsm.gesture := .held
        fsm.holdCnt := bumpHold s.fsm.holdCnt
        fsm.lastEvent := .held } :=
  if_pos hr

theorem gestureDown_of_not_high (hr : w.r ≠ .high) : gestureDown w s = gestureRelease s :=
  if_neg hr

/-- R434: a short press returns to Idle without a switch. -/
theorem gestureRelease_of_short (h : s.fsm.holdCnt.toNat < s.fsm.holdMin.toNat) :
    gestureRelease s =
      { s with fsm.gesture := .idle, fsm.holdCnt := 0, fsm.lastEvent := .released } := by
  rw [gestureRelease, if_neg (BitVec.not_le.2 (BitVec.lt_def.2 h))]

theorem gestureRelease_of_held (h : s.fsm.holdMin.toNat ≤ s.fsm.holdCnt.toNat) :
    gestureRelease s =
      { switchRequest s.fsm.mode.other s with fsm.lastEvent := .released } := by
  rw [gestureRelease, if_pos (BitVec.le_def.2 h)]
  rfl

end Gesture

/-- Settles O35: the guard, then the window in Idle by the edge, and in a gesture by its level and the
hold. -/
theorem gestureStepFollowsTheWindows : Obligations.GestureStepFollowsTheWindows := by
  intro s w
  refine ⟨gestureStep_of_ignored, fun he hp => ⟨fun hg hr hlow => ?edge, fun hg hw => ?noEdge,
    fun hg hr => ?high, fun hg hr hshort => ?short, fun hg hr hheld => ?held⟩⟩
  case edge =>
    rw [gestureStep_of_idle he hp (by simp [hr]) hg, gestureIdle_of_edge hr hlow]
    rfl
  case noEdge =>
    have hstable : w.r ≠ .unstable := by rcases hw with hr | ⟨hr, -⟩ <;> simp [hr]
    have hnot : ¬(w.r = .high ∧ w.p = .low) := by
      rcases hw with hr | ⟨-, hne⟩
      · simp [hr]
      · exact fun h => hne h.2
    rw [gestureStep_of_idle he hp hstable hg, gestureIdle_of_no_edge hnot]
  case high =>
    rw [gestureStep_of_down he hp (by simp [hr]) hg, gestureDown_of_high hr, bumpHold_eq_ofNat]
  case short =>
    rw [gestureStep_of_down he hp (by simp [hr]) hg, gestureDown_of_not_high (by simp [hr]),
      gestureRelease_of_short hshort]
    rfl
  case held =>
    rw [gestureStep_of_down he hp (by simp [hr]) hg, gestureDown_of_not_high (by simp [hr]),
      gestureRelease_of_held hheld, ← Mode.other_eq_ite]
    rfl

/-! ### The dwell step (R438) -/

/-- DWELL counts in Camera mode, while no switch is pending. -/
abbrev State.dwellCounts (s : State) : Prop :=
  s.fsm.en = true ∧ s.fsm.mode = .camera ∧ s.fsm.switchPending = false

/-- The dwell limit is on, and DWELL reaches it with this TICK. -/
abbrev State.dwellExpires (s : State) : Prop :=
  s.fsm.dwellMax ≠ 0 ∧ s.fsm.dwellMax ≤ bumpDwell s.fsm.dwell

section Dwell

variable {s : State}

theorem dwellExpires_iff :
    s.dwellExpires ↔ s.fsm.dwellMax ≠ 0#32 ∧
      s.fsm.dwellMax.toNat ≤ min (s.fsm.dwell.toNat + 1) (2 ^ 32 - 1) := by
  rw [State.dwellExpires, BitVec.le_def, bumpDwell_toNat]
  rfl

theorem dwellStep_of_not_counting (h : ¬s.dwellCounts) : dwellStep s = s := if_neg h

theorem dwellStep_of_running (hc : s.dwellCounts) (h : ¬s.dwellExpires) :
    dwellStep s = { s with fsm.dwell := bumpDwell s.fsm.dwell } :=
  (if_pos hc).trans (if_neg h)

theorem dwellStep_of_expired (hc : s.dwellCounts) (h : s.dwellExpires) :
    dwellStep s = switchRequest .navigation { s with fsm.dwell := bumpDwell s.fsm.dwell } :=
  (if_pos hc).trans (if_pos h)

end Dwell

/-! ### One TICK (R17) -/

section Tick

variable {b : Bool} {s : State}

/-- A TICK adds 1 to the CYCLE it found: none of its steps before that writes CYCLE. -/
theorem tickStep_eq_of_dwellStep {g : State}
    (h : tickStep b s = { dwellStep g with cycle := (dwellStep g).cycle + 1 }) :
    tickStep b s = { dwellStep g with cycle := s.cycle + 1 } := by
  have hcycle : (dwellStep g).cycle + 1 = s.cycle + 1 :=
    calc (dwellStep g).cycle + 1 = (tickStep b s).cycle := by rw [h]
      _ = s.cycle + 1 := by rw [tickStep_frame]
  rw [h, hcycle]

theorem tickStep_of_no_window (h : (debounceStep s.deb.sync2 (synchronise b s)).2 = none) :
    tickStep b s =
      { dwellStep (debounceStep s.deb.sync2 (synchronise b s)).1 with cycle := s.cycle + 1 } :=
  tickStep_eq_of_dwellStep (by simp only [tickStep, h])

theorem tickStep_of_window {w : WindowEnd}
    (h : (debounceStep s.deb.sync2 (synchronise b s)).2 = some w) :
    tickStep b s =
      { dwellStep (gestureStep w (debounceStep s.deb.sync2 (synchronise b s)).1) with
        cycle := s.cycle + 1 } :=
  tickStep_eq_of_dwellStep (by simp only [tickStep, h])

end Tick

/-- Settles O36: the TICK by whether a window ended, and the dwell step by its two guards. -/
theorem dwellStepCountsAndExpires : Obligations.DwellStepCountsAndExpires := by
  refine ⟨fun s b => ?_, fun s => ?_⟩
  · intro d g
    refine congrArg Host.Outcome.next ?_
    cases h : d.2 with
    | none =>
      have hg : g = d.1 := by simp only [g, h]
      rw [hg]
      exact tickStep_of_no_window h
    | some w =>
      have hg : g = gestureStep w d.1 := by simp only [g, h]
      rw [hg]
      exact tickStep_of_window h
  · intro counting next
    have hexpires : s.dwellExpires ↔ s.fsm.dwellMax ≠ 0#32 ∧ s.fsm.dwellMax.toNat ≤ next :=
      dwellExpires_iff
    refine ⟨dwellStep_of_not_counting, fun hc hrun => ?_, fun hc hon hmax => ?_⟩
    · have hnot : ¬s.dwellExpires := by
        rw [hexpires]
        rintro ⟨hon, hmax⟩
        exact hrun.elim hon hmax.not_gt
      rw [dwellStep_of_running hc hnot, bumpDwell_eq_ofNat]
    · rw [dwellStep_of_expired hc (hexpires.2 ⟨hon, hmax⟩), bumpDwell_eq_ofNat]
      rfl

/-! ### The MODE_CHANGE bit of IRQ_PEND (R46, R510, R511) -/

theorem irqPending_modeChange (s : State) :
    s.irqPending .modeChange = s.rep.irqPend.getLsbD 2 := by
  have hbit : ∀ x : BitVec 5, (x &&& 0b00100#5 != 0) = x.getLsbD 2 := by decide
  exact hbit s.rep.irqPend

theorem Irq.mask_getLsbD_two (e : Irq) : e.mask.getLsbD 2 = decide (e = .modeChange) := by
  cases e <;> rfl

theorem irqSet_modeChange_pending (s : State) :
    (irqSet .modeChange s).irqPending .modeChange = true := by
  simp [irqPending_modeChange, Irq.mask_getLsbD_two]

theorem irqSet_of_ne_modeChange_pending {e : Irq} (he : e ≠ .modeChange) (s : State) :
    (irqSet e s).irqPending .modeChange = s.irqPending .modeChange := by
  simp only [irqPending_modeChange, irqSet_rep, BitVec.getLsbD_or, Irq.mask_getLsbD_two, he,
    decide_false, Bool.or_false]

theorem irqClear_modeChange_pending {v : Word} {s : State} (h : s.irqPending .modeChange = false) :
    (irqClear v s).irqPending .modeChange = false := by
  rw [irqPending_modeChange] at h ⊢
  rw [irqClear_rep, BitVec.getLsbD_and, h, Bool.false_and]

/-! ### Steps that leave MODE alone and do not raise MODE_CHANGE -/

/-- From `s` to `t` MODE is the same, and MODE_CHANGE has not become pending. -/
structure KeepsMode (s t : State) : Prop where
  mode : t.fsm.mode = s.fsm.mode
  notRaised : s.irqPending .modeChange = false → t.irqPending .modeChange = false

namespace KeepsMode

variable {s t u : State}

theorem of_eq (hm : t.fsm.mode = s.fsm.mode) (hr : t.rep.irqPend = s.rep.irqPend) :
    KeepsMode s t :=
  ⟨hm, fun h => by rwa [irqPending_modeChange, hr, ← irqPending_modeChange]⟩

theorem refl (s : State) : KeepsMode s s := of_eq rfl rfl

theorem trans (h₁ : KeepsMode s t) (h₂ : KeepsMode t u) : KeepsMode s u :=
  ⟨h₂.mode.trans h₁.mode, h₂.notRaised ∘ h₁.notRaised⟩

theorem of_next {o : Host.Outcome State Fault Refusal} (h : o = .next t) (e : o = .next u)
    (hu : KeepsMode s u) : KeepsMode s t :=
  eq_of_next_of_next h e ▸ hu

/-- Another interrupt may be raised. -/
theorem raised {e : Irq} (he : e ≠ .modeChange) (h : KeepsMode s t) : KeepsMode s (irqSet e t) :=
  h.trans ⟨rfl, (irqSet_of_ne_modeChange_pending he t).trans⟩

/-- A guarded update, which leaves the state as it is where its guard fails. -/
theorem ite {c : Prop} [Decidable c] (h : KeepsMode s t) : KeepsMode s (if c then t else s) := by
  split_ifs
  · exact h
  · exact refl s

end KeepsMode

/-! ### The shared operations -/

theorem complete_keepsMode {s t : State} (c : ResultCode) (d : Byte) (h : KeepsMode s t) :
    KeepsMode s (complete c d t) :=
  h.trans (.raised (by decide) (.of_eq rfl rfl))

theorem completePending_keepsMode {s t : State} (h : KeepsMode s t) :
    KeepsMode s (completePending t) :=
  h.trans (.raised (by decide) (.of_eq rfl rfl))

theorem busError_keepsMode (a : Word) (s : State) : KeepsMode s (busError a s) :=
  .raised (by decide) (.of_eq rfl rfl)

theorem sessionEnd_keepsMode (r : EndReason) (s : State) : KeepsMode s (sessionEnd r s) := by
  have hended : KeepsMode s (irqSet .sessionEnd (recordError r
      { s with sess.active := false, sess.phase := .idle, sess.cancel := false })) :=
    .raised (by decide) (.of_eq (by simp) (by simp))
  unfold sessionEnd completeStop
  split_ifs
  · exact completePending_keepsMode hended
  · exact hended

/-! ### Commands and the host port -/

theorem startSession_keepsMode (k : Kind) (s : State) : KeepsMode s (startSession k s) := by
  rcases startSession_cases k s with ⟨c, -, -, e⟩ | ⟨-, -, -, -, e⟩ <;> rw [e] <;>
    exact complete_keepsMode _ _ (.of_eq rfl rfl)

theorem exec_keepsMode {i : Instr} {s t : State} (h : exec i s = .next t) : KeepsMode s t := by
  have answered {u : State} {c : ResultCode} {d : Byte} (e : exec i s = .next (complete c d u))
      (hu : KeepsMode s u) : KeepsMode s t := .of_next h e (complete_keepsMode c d hu)
  cases i with
  | nop => exact answered rfl (.refl s)
  | convertPixel | clearErr => exact answered rfl (.of_eq rfl rfl)
  | startFile | startStream => exact .of_next h rfl (startSession_keepsMode _ s)
  | stop =>
    rcases execStop_cases s with ⟨c, -, -, e⟩ | ⟨-, -, e⟩
    · exact answered e (.refl s)
    · exact .of_next h e (.of_eq rfl rfl)
  | acquire =>
    rcases execAcquire_cases s with ⟨c, -, -, e⟩ | ⟨-, -, -, -, e⟩
    · exact answered e (.refl s)
    · exact answered e (.of_eq rfl rfl)
  | commit =>
    rcases execCommit_cases s with e | ⟨-, e⟩
    · exact answered e (.refl s)
    · exact .of_next h e (.of_eq rfl rfl)

theorem issue_keepsMode {w : Word} {s t : State} (h : issue w s = .next t) : KeepsMode s t := by
  have hlatch : KeepsMode s (latchOpcode w s) := .of_eq rfl rfl
  rcases issue_cases w s with ⟨i, -, e⟩ | e
  · exact hlatch.trans (exec_keepsMode (e ▸ h))
  · exact .of_next h e (complete_keepsMode _ _ hlatch)

/-- A write of CTRL requests a switch at most, and a request leaves MODE as it is (R435, R440). -/
theorem writeCtrl_keepsMode (v : Word) (s : State) : KeepsMode s (writeCtrl v s) := by
  unfold writeCtrl modeEnEffect
  split <;> exact .of_eq rfl rfl

/-- CTRL and IRQ_PEND apart, a register write stores a field, perhaps under a guard. -/
theorem writeReg_keepsMode (o : Nat) (v : Word) (s : State) : KeepsMode s (writeReg o v s) := by
  unfold writeReg
  split
  case h_1 => exact writeCtrl_keepsMode v s
  case h_2 => exact ⟨rfl, irqClear_modeChange_pending⟩
  case h_3 | h_6 | h_11 | h_13 => exact .of_eq rfl rfl
  all_goals exact .ite (.of_eq rfl rfl)

theorem hostRead_keepsMode (a : Word) (n : Size) (s : State) : KeepsMode s (hostRead a n s) := by
  rcases hostRead_cases a n s with e | ⟨x, d, e, -⟩ <;> rw [e]
  · exact busError_keepsMode a s
  · exact .of_eq rfl rfl

theorem hostStep_keepsMode {op : HostOp} {s t : State} (h : hostStep op s = .next t) :
    KeepsMode s t := by
  cases op with
  | read a n => exact .of_next h rfl (hostRead_keepsMode a n s)
  | write a n v =>
    rw [hostStep] at h
    rcases hostWrite_cases a n v s with e | ⟨-, -, e⟩ | ⟨-, -, -, e⟩ | ⟨-, o, e⟩ | ⟨-, o, e⟩
    · exact .of_next h e (busError_keepsMode a s)
    · exact issue_keepsMode (e ▸ h)
    · exact .of_next h e ((writeReg_keepsMode a.toNat v s).trans (.of_eq rfl rfl))
    · exact .of_next h e (.of_eq (by simp) (by simp))
    · exact .of_next h e (.of_eq rfl rfl)

theorem programStep_keepsMode {s t : State} (h : programStep s = .next t) : KeepsMode s t := by
  rcases programStep_cases s with ⟨p, sch, e⟩ | ⟨a, m, v, rest, -, ⟨-, e⟩ | ⟨-, e⟩⟩ | ⟨op, p, e⟩
  · exact .of_next h e (.of_eq rfl rfl)
  · exact .of_next h e ((hostRead_keepsMode a .b4 s).trans (.of_eq rfl rfl))
  · exact .of_next h e (hostRead_keepsMode a .b4 s)
  · have hmoved : KeepsMode s { s with program := p } := .of_eq rfl rfl
    exact hmoved.trans (hostStep_keepsMode (e ▸ h))

/-! ### TICK -/

/-- A release that is long enough requests a switch, and no window changes MODE itself. -/
theorem gestureStep_mode (w : WindowEnd) (s : State) :
    (gestureStep w s).fsm.mode = s.fsm.mode := by
  have hidle : (gestureIdle w s).fsm.mode = s.fsm.mode := by
    unfold gestureIdle; split_ifs <;> rfl
  have hdown : (gestureDown w s).fsm.mode = s.fsm.mode := by
    unfold gestureDown gestureRelease; split_ifs <;> rfl
  unfold gestureStep
  split_ifs
  · rfl
  · cases s.fsm.gesture
    · exact hidle
    · exact hdown
    · exact hdown

theorem dwellStep_mode (s : State) : (dwellStep s).fsm.mode = s.fsm.mode := by
  by_cases hc : s.dwellCounts
  · by_cases he : s.dwellExpires
    · rw [dwellStep_of_expired hc he]; rfl
    · rw [dwellStep_of_running hc he]
  · rw [dwellStep_of_not_counting hc]

theorem tickStep_mode (b : Bool) (s : State) : (tickStep b s).fsm.mode = s.fsm.mode := by
  have hdebounced : (debounceStep s.deb.sync2 (synchronise b s)).1.fsm.mode = s.fsm.mode := by
    rw [debounceStep_frame]; rfl
  cases h : (debounceStep s.deb.sync2 (synchronise b s)).2 with
  | none =>
    rw [tickStep_of_no_window h]
    exact (dwellStep_mode _).trans hdebounced
  | some w =>
    rw [tickStep_of_window h]
    exact (dwellStep_mode _).trans ((gestureStep_mode w _).trans hdebounced)

theorem tickStep_keepsMode (b : Bool) (s : State) : KeepsMode s (tickStep b s) :=
  .of_eq (tickStep_mode b s) (by rw [tickStep_frame])

/-! ### WORKER, SPI and PRODUCER -/

theorem topStep_keepsMode (s : State) : KeepsMode s (topStep s) := by
  unfold topStep
  split
  · exact sessionEnd_keepsMode _ s
  · exact .of_eq rfl rfl

theorem fetchFile_keepsMode (s : State) : KeepsMode s (fetchFile s) := by
  rcases fetchFile_cases s with ⟨-, e⟩ | ⟨-, e⟩ | ⟨c, e, -⟩ <;> rw [e]
  · exact .of_eq rfl rfl
  · exact .of_eq rfl rfl
  · exact sessionEnd_keepsMode _ s

theorem convertEnd_keepsMode {s t : State} (h : convertEnd s = .next t) : KeepsMode s t := by
  obtain ⟨-, -, rfl⟩ := convertEnd_next h
  rw [framePass_frame]
  exact .of_eq rfl rfl

theorem workerStep_keepsMode {s t : State} (h : workerStep s = .next t) : KeepsMode s t := by
  unfold workerStep at h
  split at h
  · exact .of_next h rfl (.refl s)
  · exact .of_next h rfl (topStep_keepsMode s)
  · exact .of_next h rfl (fetchFile_keepsMode s)
  · exact .of_next h rfl (.of_eq rfl rfl)
  · exact .of_next h rfl (sessionEnd_keepsMode _ s)
  · exact convertEnd_keepsMode h
  · exact .of_next h rfl (.raised (by decide) (.of_eq rfl rfl))
  · exact .of_next h rfl (.of_eq rfl rfl)

theorem spiStep_keepsMode {s t : State} (h : spiStep s = .next t) : KeepsMode s t := by
  rcases spiStep_next h with rfl | ⟨-, -, rfl⟩ | ⟨-, -, -, -, rfl⟩ | ⟨-, -, -, rfl⟩
  · exact .refl _
  · exact .of_eq rfl rfl
  · exact .of_eq rfl rfl
  · rcases spiEnd_cases s with ⟨-, -, e⟩ | ⟨-, e⟩ <;> rw [e]
    · exact completePending_keepsMode (.of_eq rfl rfl)
    · exact .of_eq rfl rfl

theorem producerStep_keepsMode {a : ProducerAct} {s t : State} (h : producerStep a s = .next t) :
    KeepsMode s t := by
  cases a with
  | offer x => exact .of_next h rfl (.of_eq rfl rfl)
  | push => rcases pushByte_next h with rfl | ⟨x, rest, -, -, -, rfl⟩ <;> exact .of_eq rfl rfl
  | close | error => exact .of_next h rfl (.ite (.of_eq rfl rfl))

/-! ### MODESW: the completion of a switch (R436, R437) -/

theorem enterMode_mode (m : Mode) (s : State) : (enterMode m s).fsm.mode = m := by
  unfold enterMode
  split_ifs with h
  · exact h
  · rfl

/-- R437: MODE_CHANGE is raised exactly if the mode is another one. -/
theorem enterMode_modeChange_pending (m : Mode) (s : State) :
    (enterMode m s).irqPending .modeChange =
      if s.fsm.mode = m then s.irqPending .modeChange else true := by
  unfold enterMode
  split_ifs
  · rfl
  · exact irqSet_modeChange_pending _

/-- Entry to Camera begins a session besides, which touches neither MODE nor IRQ_PEND. -/
theorem switchComplete_mode_irqPend (s : State) :
    (switchComplete s).fsm.mode =
        (enterMode s.fsm.switchTarget { s with fsm.switchPending := false }).fsm.mode ∧
      (switchComplete s).rep.irqPend =
        (enterMode s.fsm.switchTarget { s with fsm.switchPending := false }).rep.irqPend := by
  cases h : s.fsm.switchTarget <;> simp [switchComplete, h]

theorem switchComplete_mode (s : State) : (switchComplete s).fsm.mode = s.fsm.switchTarget :=
  (switchComplete_mode_irqPend s).1.trans (enterMode_mode _ _)

theorem switchComplete_modeChange_pending (s : State) :
    (switchComplete s).irqPending .modeChange =
      if s.fsm.mode = s.fsm.switchTarget then s.irqPending .modeChange else true := by
  rw [irqPending_modeChange, (switchComplete_mode_irqPend s).2, ← irqPending_modeChange]
  exact enterMode_modeChange_pending _ _

/-- One case per agent: MODESW with its guard is the one step, but reset, that need not keep MODE. -/
theorem runEvent_keepsMode_or_completes {e : Event} {s t : State} (hr : e ≠ .reset)
    (h : runEvent e s = .next t) :
    KeepsMode s t ∨
      (e = .modesw ∧ s.fsm.switchPending = true ∧ s.sess.active = false ∧ t = switchComplete s) := by
  cases e with
  | tick b => exact .inl (.of_next h rfl (tickStep_keepsMode b s))
  | host op => exact .inl (hostStep_keepsMode h)
  | program => exact .inl (programStep_keepsMode h)
  | worker => exact .inl (workerStep_keepsMode h)
  | spi => exact .inl (spiStep_keepsMode h)
  | modesw =>
    have ht : t = modeswStep s := eq_of_next_of_next h rfl
    rcases modeswStep_cases s with e | ⟨hpending, hactive, -, -, e⟩ <;> rw [ht, e]
    · exact .inl (.refl s)
    · exact .inr ⟨rfl, hpending, hactive, rfl⟩
  | producer a => exact .inl (producerStep_keepsMode h)
  | reset => exact absurd rfl hr

/-- Settles O38: a completed switch enters its target, and raises MODE_CHANGE exactly if that is another
mode. -/
theorem modeChangesOnlyByACompletedSwitch : Obligations.ModeChangesOnlyByACompletedSwitch := by
  intro e s t hr h
  rcases runEvent_keepsMode_or_completes hr h with hkeeps | ⟨rfl, hpending, hactive, rfl⟩
  · exact ⟨fun hmode => absurd hkeeps.mode hmode,
      fun hs ht => absurd (ht.symm.trans (hkeeps.notRaised hs)) (by decide)⟩
  · rw [switchComplete_mode, switchComplete_modeChange_pending]
    refine ⟨fun hmode => ⟨rfl, hpending, hactive, rfl, if_neg hmode.symm⟩, fun hs hraised heq => ?_⟩
    rw [if_pos heq.symm, hs] at hraised
    exact absurd hraised (by decide)

end Sys2Proof.Machine
end

section
/-! PROOFS. The miscellaneous commands of 47_misc_commands.md: NOP, CLEAR_ERR, and the answer to an illegal
word. -/

namespace Sys2Proof.Machine

/-! ### An illegal word (R474) -/

/-- At an idle port the answer writes every field of the command port: PENDING_CMD stays `none`. -/
theorem illegalWord_latchOpcode {s : State} (h : s.cmd.pending = .none) (w : Word) :
    illegalWord (latchOpcode w s) =
      { s with
        reply := some ⟨.ok, 0#32⟩
        cmd := ⟨.none, .illegal, 0#8, opcodeOf w⟩
        rep.irqPend := s.rep.irqPend ||| Irq.cmdDone.mask } := by
  rw [← h]
  rfl

/-- Settles O6: an idle port issues the word, whose decoding fails; a busy one refuses it like any other. -/
theorem illegalWordIsAnswered : Obligations.IllegalWordIsAnswered := by
  intro s w e he
  refine ⟨fun hidle => ?_, busyCommandPortRefuses s w⟩
  calc hostWrite cmdAddr .b4 w s
    _ = issue w s := hostWrite_cmd_idle hidle w
    _ = .next (illegalWord (latchOpcode w s)) := issue_of_decode_error he s
    _ = _ := congrArg Host.Outcome.next (illegalWord_latchOpcode hidle w)

/-! ### NOP (R470) -/

theorem exec_nop (s : State) : exec .nop s = .next (complete .ok 0 s) := rfl

/-- Settles O8: NOP is the completion with OK alone, and layout N reserves its whole operand. -/
theorem nopReportsOk : Obligations.NopReportsOk :=
  ⟨by decide, fun _ hf => decode_layoutN_operand_error (by decide) hf, exec_nop⟩

/-! ### CLEAR_ERR (R472) -/

theorem exec_clearErr (s : State) :
    exec .clearErr s = .next (complete .ok 0 { s with err := ⟨.none, false, .file⟩ }) := rfl

/-- ERR reads 0 when it holds no cause and its other two fields are 0 (R45). -/
theorem errWord_of_err_clear {s : State} (h : s.err = ⟨.none, false, .file⟩) : s.errWord = 0#32 := by
  rw [State.errWord, h]
  decide

/-- Settles O9: CLEAR_ERR empties the record and completes with OK, and layout N reserves its whole
operand. -/
theorem clearErrClearsTheRecord : Obligations.ClearErrClearsTheRecord :=
  ⟨by decide, fun _ hf => decode_layoutN_operand_error (by decide) hf,
    fun s => ⟨_, exec_clearErr s, errWord_of_err_clear rfl, rfl⟩⟩

end Sys2Proof.Machine
end

section
/-! PROOFS. What one step can do to the block, said once for all the invariants: an event other than reset
changes at most what stands aside, which no guard of the block reads, and then makes one of a list of moves. -/

namespace Sys2Proof.Machine

/-! ### What stands aside -/

/-- A change of what no guard and no invariant of the block reads: the interrupt and bus-error reports, the
opcode latch, the port's last answer, the counts of draws, the schedule and the host's program. -/
inductive Aside (s : State) : State → Prop
  | intro (rep : Reports) (opcode : Byte) (reply : Option Reply) (draws drawn : Nat)
      (schedule : List Event) (program : List HostStmt) :
      Aside s
        { s with
          rep := rep
          cmd.opcode := opcode
          reply := reply
          draws := draws
          drawnEvents := drawn
          schedule := schedule
          program := program }

namespace Aside

theorem refl (s : State) : Aside s s := ⟨_, _, _, _, _, _, _⟩

theorem trans {s t u : State} (h₁ : Aside s t) (h₂ : Aside t u) : Aside s u := by
  cases h₁
  cases h₂
  exact ⟨_, _, _, _, _, _, _⟩

theorem of_program (s : State) (p : List HostStmt) : Aside s { s with program := p } :=
  ⟨_, _, _, _, _, _, _⟩

theorem of_latchOpcode (w : Word) (s : State) : Aside s (latchOpcode w s) := ⟨_, _, _, _, _, _, _⟩

theorem of_hostRead (a : Word) (n : Size) (s : State) : Aside s (hostRead a n s) := by
  rcases hostRead_cases a n s with e | ⟨x, d, e, -⟩ <;> rw [e] <;> exact ⟨_, _, _, _, _, _, _⟩

theorem of_takeEvent (s : State) : Aside s (takeEvent s).2 := by
  rw [takeEvent_frame]
  exact ⟨_, _, _, _, _, _, _⟩

end Aside

/-! ### The moves of the block -/

/-- One move of the block, each with what its guard says: the step of an agent, as its own lemma of
Laws/Ops has it. -/
inductive Move (s : State) : State → Prop
  | stay : Move s s
  | tick (b : Bool) : Move s (tickStep b s)
  | busError (a : Word) : Move s (busError a s)
  | register (o : Nat) (v : Word) (unlocked : regLocked o v s = false) :
      Move s (replyOk 0 (writeReg o v s))
  | storeBack (o n : Nat) (v : Word) (owner : s.pool.owner = .host) :
      Move s (replyOk 0 (s.setFb s.back ((s.fb s.back).writeLanes o n v)))
  | storeSource (o n : Nat) (v : Word) (active : s.sess.active = false) :
      Move s (replyOk 0 { s with srcMem := s.srcMem.writeLanes o n v })
  | answer (c : ResultCode) (d : Byte) (idle : s.cmd.pending = .none) (final : c ≠ .pending) :
      Move s (complete c d s)
  | convertPixel (x : PixelRegs) (idle : s.cmd.pending = .none) :
      Move s (complete .ok 0 { s with pix := x })
  | clearErr (idle : s.cmd.pending = .none) :
      Move s (complete .ok 0 { s with err := ⟨.none, false, .file⟩ })
  | start (k : Kind) (idle : s.cmd.pending = .none) (active : s.sess.active = false)
      (owner : s.pool.owner = .none) (busy : s.spi.busy = false)
      (camera : s.fsm.en = true →
        s.fsm.mode = .camera ∧ k = .stream ∧ s.fsm.switchPending = false) :
      Move s (complete .ok 0 (sessionBegin k s))
  | stop (idle : s.cmd.pending = .none) (en : s.fsm.en = false) (active : s.sess.active = true) :
      Move s (pend .stop { s with sess.cancel := true })
  | acquire (idle : s.cmd.pending = .none) (active : s.sess.active = false)
      (owner : s.pool.owner = .none) (busy : s.spi.busy = false) :
      Move s (complete .ok s.back.data { s with pool.owner := .host })
  | commit (idle : s.cmd.pending = .none) (owner : s.pool.owner = .host) :
      Move s (pend .commit (spiStart s.pool.front.other .host (commitAndSwap s)))
  | cancelled (phase : s.sess.phase = .top) : Move s (sessionEnd .stopped s)
  | turn (phase : s.sess.phase = .top) :
      Move s { s with
        sess.t0 := s.cycle
        source.acc := if s.sess.kind = .stream then 0 else s.source.acc
        sess.phase := .fetch }
  | takeChunk (base pos : Word) (phase : s.sess.phase = .fetch)
      (posLe : pos.toNat ≤ s.source.fileLen.toNat)
      (fits : base.toNat + s.frameSize ≤ s.source.fileLen.toNat) :
      Move s (workerAcquire { s with source.frameBase := base, source.filePos := pos })
  | takeFrame (phase : s.sess.phase = .fetch) (kind : s.sess.kind = .stream) :
      Move s (fetchStreamDone s)
  | fail (c : Cause) (phase : s.sess.phase = .fetch) (cause : c = .closed ∨ c = .shortRead) :
      Move s (sessionEnd (.fatal c) s)
  | convertEnd (phase : s.sess.phase = .convert) :
      Move s { spiStart s.back .worker
          (commitAndSwap (framePass s.source.frameBase.toNat s.back s)) with
        sess.phase := .present }
  | presentDone (phase : s.sess.phase = .present) (busy : s.spi.busy = false) :
      Move s (presentDone s)
  | pace (phase : s.sess.phase = .pace) : Move s (paceStep s)
  | commandByte (busy : s.spi.busy = true) (cmdPhase : s.spi.cmdPhase = true) :
      Move s (spiCommandByte s)
  | payloadByte (busy : s.spi.busy = true) (cmdPhase : s.spi.cmdPhase = false)
      (more : s.spi.idx < s.spi.len) : Move s (spiPayloadByte s)
  | presentEnd : Move s (spiEnd s)
  | switch (pending : s.fsm.switchPending = true) (active : s.sess.active = false)
      (owner : s.pool.owner = .none) (busy : s.spi.busy = false) : Move s (switchComplete s)
  | offer (x : Byte) : Move s (offerByte x s)
  | push (x : Byte) (rest : List Byte) (ready : s.sReady = true) :
      Move s { s with
        srcMem := s.srcMem.write s.source.acc.toNat x
        source.acc := s.source.acc + 1
        source.offered := rest }
  | pulse (e : StreamEnd) : Move s { s with source.streamEnd := e }

/-- A change aside, and then one move. -/
def Moves (s t : State) : Prop := ∃ u, Aside s u ∧ Move u t

namespace Moves

theorem of_move {s t : State} (h : Move s t) : Moves s t := ⟨s, .refl s, h⟩

theorem of_aside {s t : State} (h : Aside s t) : Moves s t := ⟨t, h, .stay⟩

theorem after {s t u : State} (h₁ : Aside s t) (h₂ : Moves t u) : Moves s u :=
  let ⟨v, hv, hm⟩ := h₂
  ⟨v, h₁.trans hv, hm⟩

end Moves

namespace Move

theorem of_next {o : Host.Outcome State Fault Refusal} {s t u : State} (h : o = .next t)
    (e : o = .next u) (hu : Move s u) : Move s t :=
  eq_of_next_of_next h e ▸ hu

theorem of_startSession {k : Kind} {s : State} (hidle : s.cmd.pending = .none) :
    Move s (startSession k s) := by
  rcases startSession_cases k s with ⟨c, -, hc, e⟩ | ⟨ha, ho, hb, hcam, e⟩ <;> rw [e]
  · exact .answer c 0 hidle hc
  · exact .start k hidle ha ho hb hcam

/-- A command is executed at an idle port alone (R157). -/
theorem of_exec {i : Instr} {s t : State} (hidle : s.cmd.pending = .none)
    (h : exec i s = .next t) : Move s t := by
  cases i with
  | nop => exact of_next h rfl (.answer _ _ hidle (by decide))
  | convertPixel y u v => exact of_next h rfl (.convertPixel _ hidle)
  | startFile | startStream => exact of_next h rfl (of_startSession hidle)
  | stop =>
    rcases execStop_cases s with ⟨c, -, hc, e⟩ | ⟨he, ha, e⟩
    · exact of_next h e (.answer c 0 hidle hc)
    · exact of_next h e (.stop hidle he ha)
  | acquire =>
    rcases execAcquire_cases s with ⟨c, -, hc, e⟩ | ⟨ha, ho, hb, -, e⟩
    · exact of_next h e (.answer c 0 hidle hc)
    · exact of_next h e (.acquire hidle ha ho hb)
  | commit =>
    rcases execCommit_cases s with e | ⟨ho, e⟩
    · exact of_next h e (.answer _ _ hidle (by decide))
    · exact of_next h e (.commit hidle ho)
  | clearErr => exact of_next h rfl (.clearErr hidle)

theorem of_topStep {s : State} (hp : s.sess.phase = .top) : Move s (topStep s) := by
  unfold topStep
  split
  · exact .cancelled hp
  · exact .turn hp

theorem of_fetchFile {s : State} (hp : s.sess.phase = .fetch) : Move s (fetchFile s) := by
  have hlen := s.source.fileLen.isLt
  rcases fetchFile_cases s with ⟨hfits, e⟩ | ⟨hfits, e⟩ | ⟨c, e, hc⟩ <;> rw [e]
  · refine .takeChunk _ _ hp ?_ hfits
    rw [BitVec.toNat_ofNat, Nat.mod_eq_of_lt (by omega)]
    exact hfits
  · refine .takeChunk _ _ hp ?_ (by simpa using hfits)
    rw [BitVec.toNat_ofNat, Nat.mod_eq_of_lt (by omega)]
    exact hfits
  · exact .fail c hp hc

theorem of_workerStep {s t : State} (h : workerStep s = .next t) : Move s t := by
  unfold workerStep at h
  cases hop : s.workerOp with
  | none =>
    rw [hop] at h
    exact of_next h rfl .stay
  | some op =>
    have hphase := workerOp_phase hop
    rw [hop] at h
    cases op with
    | top => exact of_next h rfl (of_topStep hphase)
    | fetchFile => exact of_next h rfl (of_fetchFile hphase.1)
    | fetchStreamDone =>
      obtain ⟨hp, -, hk, -⟩ := hphase
      exact of_next h rfl (.takeFrame hp hk)
    | fetchStreamFail => exact of_next h rfl (.fail _ hphase.1 (streamFailCause_cases s))
    | convertEnd =>
      obtain ⟨-, -, rfl⟩ := convertEnd_next h
      exact .convertEnd hphase
    | presentDone => exact of_next h rfl (.presentDone hphase.1 hphase.2)
    | pace => exact of_next h rfl (.pace hphase.1)

theorem of_spiStep {s t : State} (h : spiStep s = .next t) : Move s t := by
  rcases spiStep_next h with rfl | ⟨hb, hc, rfl⟩ | ⟨hb, hc, hi, -, rfl⟩ | ⟨-, -, -, rfl⟩
  · exact .stay
  · exact .commandByte hb hc
  · exact .payloadByte hb hc hi
  · exact .presentEnd

theorem of_modeswStep (s : State) : Move s (modeswStep s) := by
  rcases modeswStep_cases s with e | ⟨hp, ha, ho, hb, e⟩ <;> rw [e]
  · exact .stay
  · exact .switch hp ha ho hb

theorem of_endStream (e : StreamEnd) (s : State) : Move s (endStream e s) := by
  rcases endStream_cases e s with e' | ⟨-, -, -, e'⟩ <;> rw [e']
  · exact .stay
  · exact .pulse e

theorem of_producerStep {a : ProducerAct} {s t : State} (h : producerStep a s = .next t) :
    Move s t := by
  cases a with
  | offer x => exact of_next h rfl (.offer x)
  | push =>
    rcases pushByte_next h with rfl | ⟨x, rest, -, hr, -, rfl⟩
    · exact .stay
    · exact .push x rest hr
  | close | error => exact of_next h rfl (of_endStream _ s)

end Move

/-! ### The completion of a switch, by its target (R436) -/

theorem switchComplete_of_navigation {s : State} (h : s.fsm.switchTarget = .navigation) :
    switchComplete s = enterMode .navigation { s with fsm.switchPending := false } := by
  simp only [switchComplete, h]

/-- Entry to Camera clears DWELL and begins a Stream session (R436). -/
theorem switchComplete_of_camera {s : State} (h : s.fsm.switchTarget = .camera) :
    switchComplete s = sessionBegin .stream
      { enterMode .camera { s with fsm.switchPending := false } with fsm.dwell := 0 } := by
  simp only [switchComplete, h]

/-! ### Every event is a change aside and a move -/

theorem issue_moves {w : Word} {s t : State} (hidle : s.cmd.pending = .none)
    (h : issue w s = .next t) : Moves s t := by
  refine ⟨latchOpcode w s, .of_latchOpcode w s, ?_⟩
  rcases issue_cases w s with ⟨i, -, e⟩ | e
  · exact .of_exec hidle (e ▸ h)
  · exact .of_next h e (.answer _ _ hidle (by decide))

theorem hostStep_moves {op : HostOp} {s t : State} (h : hostStep op s = .next t) : Moves s t := by
  cases op with
  | read a n => exact eq_of_next_of_next h rfl ▸ .of_aside (.of_hostRead a n s)
  | write a n v =>
    rw [hostStep] at h
    rcases hostWrite_cases a n v s with e | ⟨-, hidle, e⟩ | ⟨-, -, hl, e⟩ | ⟨ho, o, e⟩ | ⟨ha, o, e⟩
    · exact .of_move (.of_next h e (.busError a))
    · exact issue_moves hidle (e ▸ h)
    · exact .of_move (.of_next h e (.register _ v hl))
    · exact .of_move (.of_next h e (.storeBack o _ v ho))
    · exact .of_move (.of_next h e (.storeSource o _ v ha))

theorem programStep_moves {s t : State} (h : programStep s = .next t) : Moves s t := by
  rcases programStep_cases s with ⟨p, sch, e⟩ | ⟨a, m, v, rest, -, ⟨-, e⟩ | ⟨-, e⟩⟩ | ⟨op, p, e⟩ <;>
    rw [e] at h
  · exact eq_of_next_of_next h rfl ▸ .of_aside ⟨_, _, _, _, _, _, _⟩
  · exact eq_of_next_of_next h rfl ▸ .of_aside ((Aside.of_hostRead a .b4 s).trans (.of_program _ rest))
  · exact eq_of_next_of_next h rfl ▸ .of_aside (.of_hostRead a .b4 s)
  · exact .after (.of_program s p) (hostStep_moves h)

/-- One case per agent. -/
theorem runEvent_moves {e : Event} {s t : State} (hr : e ≠ .reset) (h : runEvent e s = .next t) :
    Moves s t := by
  cases e with
  | tick b => exact .of_move (.of_next h rfl (.tick b))
  | host op => exact hostStep_moves h
  | program => exact programStep_moves h
  | worker => exact .of_move (.of_workerStep h)
  | spi => exact .of_move (.of_spiStep h)
  | modesw => exact .of_move (.of_next h rfl (.of_modeswStep s))
  | producer a => exact .of_move (.of_producerStep h)
  | reset => exact absurd rfl hr

/-- A predicate that changes aside, the moves and reset keep is kept by every step. -/
theorem step_keeps_of_moves {P : State → Prop} (aside : ∀ {s t : State}, Aside s t → P s → P t)
    (move : ∀ {s t : State}, Move s t → P s → P t) (reset : ∀ {s : State}, P s → P (resetStep s))
    {s t : State} (hs : P s) (h : step s = .next t) : P t := by
  have hu : P (takeEvent s).2 := aside (.of_takeEvent s) hs
  rw [step] at h
  by_cases hr : (takeEvent s).1 = .reset
  · rw [hr] at h
    exact eq_of_next_of_next h rfl ▸ reset hu
  · obtain ⟨v, haside, hmove⟩ := runEvent_moves hr h
    exact move hmove (aside haside hu)

end Sys2Proof.Machine
end

section
/-! PROOFS. The arbiter's invariants over every step (10_state.md R74): the situations in which they hold,
and which of them each move leads to. -/

namespace Sys2Proof.Machine

/-! ### Situations that meet the invariants -/

namespace ArbiterInv

theorem congr {s t : State} (h : ArbiterInv s) (hpool : t.pool = s.pool)
    (hactive : t.sess.active = s.sess.active) (hphase : t.sess.phase = s.sess.phase)
    (hbusy : t.spi.busy = s.spi.busy) (hbuf : t.spi.buf = s.spi.buf) : ArbiterInv t := by
  constructor
  · rw [hpool, hphase]; exact h.workerOwns
  · rw [hpool, hactive]; exact h.hostOwns
  · rw [hbusy, hpool, hbuf]; exact h.presenting
  · rw [hphase, hactive]; exact h.phaseActive
  · rw [hbusy, hphase]; exact h.presentPhase

/-- No buffer is owned and no present runs. -/
theorem of_free {t : State} (howner : t.pool.owner = .none) (hbusy : t.spi.busy = false)
    (hphase : t.sess.phase ≠ .convert) (hactive : t.sess.phase ≠ .idle ↔ t.sess.active = true) :
    ArbiterInv t where
  workerOwns := by simp [howner, hphase]
  hostOwns := by simp [howner]
  presenting := by simp [hbusy]
  phaseActive := hactive
  presentPhase := by simp [hbusy]

/-- The worker has taken the back buffer for its frame. -/
theorem of_worker {t : State} (howner : t.pool.owner = .worker) (hbusy : t.spi.busy = false)
    (hphase : t.sess.phase = .convert) (hactive : t.sess.active = true) : ArbiterInv t where
  workerOwns := by simp [howner, hphase]
  hostOwns := by simp [howner]
  presenting := by simp [hbusy]
  phaseActive := by simp [hphase, hactive]
  presentPhase := by simp [hbusy]

/-- The host has taken the back buffer, outside a session. -/
theorem of_host {t : State} (howner : t.pool.owner = .host) (hbusy : t.spi.busy = false)
    (hphase : t.sess.phase = .idle) (hactive : t.sess.active = false) : ArbiterInv t where
  workerOwns := by simp [howner, hphase]
  hostOwns := fun _ => hactive
  presenting := by simp [hbusy]
  phaseActive := by simp [hphase, hactive]
  presentPhase := by simp [hbusy]

/-- The front is being presented. -/
theorem of_presenting {t : State} (howner : t.pool.owner = .none) (hbuf : t.spi.buf = t.pool.front)
    (hphase : t.sess.phase = .idle ∨ t.sess.phase = .present)
    (hactive : t.sess.phase ≠ .idle ↔ t.sess.active = true) : ArbiterInv t where
  workerOwns := by rcases hphase with h | h <;> simp [howner, h]
  hostOwns := by simp [howner]
  presenting := fun _ => ⟨howner, hbuf⟩
  phaseActive := hactive
  presentPhase := fun _ => hphase

/-! ### What the invariants give in a phase -/

section Phase

variable {s : State} (h : ArbiterInv s)
include h

theorem phase_idle (ha : s.sess.active = false) : s.sess.phase = .idle :=
  not_not.1 fun hp => absurd (ha.symm.trans (h.phaseActive.1 hp)) (by decide)

theorem owner_none (hidle : s.sess.phase ≠ .idle) (hconvert : s.sess.phase ≠ .convert) :
    s.pool.owner = .none := by
  cases howner : s.pool.owner with
  | none => rfl
  | worker => exact absurd (h.workerOwns.1 howner) hconvert
  | host => exact absurd ((h.phaseActive.1 hidle).symm.trans (h.hostOwns howner)) (by decide)

theorem not_busy (hidle : s.sess.phase ≠ .idle) (hpresent : s.sess.phase ≠ .present) :
    s.spi.busy = false :=
  Bool.eq_false_iff.2 fun hb => (h.presentPhase hb).elim hidle hpresent

end Phase

end ArbiterInv

/-! ### Every move keeps them -/

theorem Aside.keeps_arbiterInv {s t : State} (h : Aside s t) (hi : ArbiterInv s) : ArbiterInv t := by
  cases h
  exact hi.congr rfl rfl rfl rfl rfl

theorem switchComplete_keeps_arbiterInv {s : State} (hi : ArbiterInv s)
    (howner : s.pool.owner = .none) (hbusy : s.spi.busy = false) : ArbiterInv (switchComplete s) := by
  cases h : s.fsm.switchTarget with
  | navigation => rw [switchComplete_of_navigation h]; apply hi.congr <;> simp
  | camera => rw [switchComplete_of_camera h]; apply ArbiterInv.of_free <;> simp [howner, hbusy]

theorem spiEnd_keeps_arbiterInv {s : State} (hi : ArbiterInv s) : ArbiterInv (spiEnd s) := by
  obtain ⟨hworker, hhost, -, hactive, -⟩ := hi
  rcases spiEnd_cases s with ⟨-, -, e⟩ | ⟨-, e⟩ <;> rw [e] <;>
    exact ⟨hworker, hhost, nofun, hactive, nofun⟩

theorem Move.keeps_arbiterInv {s t : State} (h : Move s t) (hi : ArbiterInv s) : ArbiterInv t := by
  cases h with
  | stay => exact hi
  | tick b => rw [tickStep_frame]; exact hi.congr rfl rfl rfl rfl rfl
  | register o v => rw [writeReg_frame]; exact hi.congr rfl rfl rfl rfl rfl
  | storeBack => apply hi.congr <;> simp
  | busError | storeSource | answer | convertPixel | clearErr | stop | commandByte | payloadByte
  | offer | push | pulse => exact hi.congr rfl rfl rfl rfl rfl
  | start k _ _ howner hbusy => exact .of_free howner hbusy nofun (iff_of_true nofun rfl)
  | acquire _ hactive _ hbusy => exact .of_host rfl hbusy (hi.phase_idle hactive) hactive
  | commit _ howner =>
    have hphase := hi.phase_idle (hi.hostOwns howner)
    exact .of_presenting rfl rfl (.inl hphase) hi.phaseActive
  | cancelled hphase =>
    obtain ⟨howner, hbusy⟩ := hi.pool_free_of_top_or_fetch (.inl hphase)
    apply ArbiterInv.of_free <;> simp [howner, hbusy]
  | fail c hphase =>
    obtain ⟨howner, hbusy⟩ := hi.pool_free_of_top_or_fetch (.inr hphase)
    apply ArbiterInv.of_free <;> simp [howner, hbusy]
  | turn hphase =>
    obtain ⟨howner, hbusy⟩ := hi.pool_free_of_top_or_fetch (.inl hphase)
    have hactive := hi.phaseActive.1 (by simp [hphase])
    exact .of_free howner hbusy nofun (iff_of_true nofun hactive)
  | takeChunk base pos hphase | takeFrame hphase =>
    obtain ⟨-, hbusy⟩ := hi.pool_free_of_top_or_fetch (.inr hphase)
    exact .of_worker rfl hbusy rfl (hi.phaseActive.1 (by simp [hphase]))
  | convertEnd hphase =>
    have hactive := hi.phaseActive.1 (by simp [hphase])
    apply ArbiterInv.of_presenting <;> rw [framePass_frame] <;> simp [State.back, hactive]
  | presentDone hphase hbusy =>
    have howner := hi.owner_none (by simp [hphase]) (by simp [hphase])
    have hactive := hi.phaseActive.1 (by simp [hphase])
    exact .of_free howner hbusy nofun (iff_of_true nofun hactive)
  | pace hphase =>
    have howner := hi.owner_none (by simp [hphase]) (by simp [hphase])
    have hbusy := hi.not_busy (by simp [hphase]) (by simp [hphase])
    have hactive := hi.phaseActive.1 (by simp [hphase])
    exact .of_free howner hbusy nofun (iff_of_true nofun hactive)
  | presentEnd => exact spiEnd_keeps_arbiterInv hi
  | switch _ _ howner hbusy => exact switchComplete_keeps_arbiterInv hi howner hbusy

theorem resetWith_arbiterInv (p : Params) : ArbiterInv (State.resetWith p) :=
  .of_free rfl rfl nofun (by simp [State.resetWith])

theorem resetStep_arbiterInv (s : State) : ArbiterInv (resetStep s) :=
  (resetWith_arbiterInv s.params).congr rfl rfl rfl rfl rfl

/-- Settles O52: every move leads to one of the situations that meet the invariants. -/
theorem stepKeepsTheArbiterInvariants : Obligations.StepKeepsTheArbiterInvariants := fun _ _ =>
  step_keeps_of_moves Aside.keeps_arbiterInv Move.keeps_arbiterInv fun {s} _ => resetStep_arbiterInv s

end Sys2Proof.Machine
end

section
/-! PROOFS. The bounds over every step (R9, R48, R49, R51, R212, R281, R284, R371): the sizes that legal
registers allow, and what each move does to a bound. In the proofs that an invariant is kept, here and
below, `{ hi with … }` carries over each of its fields that the move leaves as it was, and names the
others. -/

namespace Sys2Proof.Machine

/-! ### The sizes of a legal display (R9, R48, R49) -/

theorem sizeLegal_le {limit : Nat} {x : BitVec 16} (h : sizeLegal limit x = true) :
    x.toNat ≤ limit := by
  simp only [sizeLegal, decide_eq_true_eq] at h
  exact h.2.2

namespace BoundsInv

section Sizes

variable {s : State} (h : BoundsInv s)
include h

theorem pixels_le : s.pixels ≤ s.params.maxW * s.params.maxH :=
  Nat.mul_le_mul (sizeLegal_le h.width) (sizeLegal_le h.height)

/-- A frame fits the source memory (R9). -/
theorem frameSize_le : s.frameSize ≤ s.params.srcBytes := by
  obtain ⟨-, -, -, -, -, -, -, hsrc, -⟩ := h.params
  exact (Nat.div_le_div_right (Nat.mul_le_mul_right 3 h.pixels_le)).trans hsrc

/-- The pixels of a frame fit a framebuffer (R9). -/
theorem two_pixels_le : 2 * s.pixels ≤ s.params.fbBytes := by
  rw [Params.fbBytes, Nat.mul_comm 2]
  exact Nat.mul_le_mul_right 2 h.pixels_le

/-- The payload's length is a word. -/
theorem two_pixels_lt : 2 * s.pixels < 2 ^ 32 := by
  obtain ⟨-, -, -, -, -, -, hfb, -⟩ := h.params
  have := h.two_pixels_le
  omega

/-- The length that a present latches is the frame's (R371). -/
theorem latched_length :
    (BitVec.ofNat 32 (2 * s.pixels)).toNat = 2 * s.pixels ∧
      (0#32).toNat ≤ (BitVec.ofNat 32 (2 * s.pixels)).toNat :=
  ⟨by rw [BitVec.toNat_ofNat, Nat.mod_eq_of_lt h.two_pixels_lt], Nat.zero_le _⟩

end Sizes

end BoundsInv

/-! ### A write of a register (R48, R49, R51) -/

theorem not_geomLocked {s : State} (h : s.geomLocked = false) :
    s.sess.active = false ∧ s.spi.busy = false := by
  simp only [State.geomLocked, Bool.or_eq_false_iff] at h
  exact ⟨h.1.1, h.2⟩

/-- With the geometry unlocked no frame is under way, so no bound on one is left to keep. -/
theorem BoundsInv.of_unlocked {s : State} (ha : ArbiterInv s) (hi : BoundsInv s)
    (hl : s.geomLocked = false) {g : Geometry} (hw : sizeLegal s.params.maxW g.width = true)
    (hh : sizeLegal s.params.maxH g.height = true) : BoundsInv { s with geom := g } := by
  obtain ⟨hactive, hbusy⟩ := not_geomLocked hl
  have hphase := ha.phase_idle hactive
  exact { hi with
    width := hw
    height := hh
    acc := fun hp => absurd (hphase.symm.trans hp) (by decide)
    frame := fun hp => absurd (hphase.symm.trans hp) (by decide)
    present := fun hb => absurd (hbusy.symm.trans hb) (by decide) }

theorem writeReg_keeps_boundsInv {s : State} {o : Nat} {v : Word} (ha : ArbiterInv s)
    (hi : BoundsInv s) (hl : regLocked o v s = false) : BoundsInv (writeReg o v s) := by
  unfold writeReg
  split
  case h_1 => rw [writeCtrl_frame]; exact { hi with }
  case h_4 =>
    exact iteInduction (motive := BoundsInv) (fun h => hi.of_unlocked ha hl h hi.height) fun _ => hi
  case h_5 =>
    exact iteInduction (motive := BoundsInv) (fun h => hi.of_unlocked ha hl hi.width h) fun _ => hi
  case h_7 =>
    have hidle (h : s.sess.active = true) : False := absurd (h.symm.trans hl) (by decide)
    exact iteInduction (motive := BoundsInv)
      (fun h => { hi with fileLen := h, filePos := fun h => (hidle h).elim }) fun _ => hi
  case h_2 | h_3 | h_6 | h_11 | h_13 => exact { hi with }
  all_goals exact iteInduction (motive := BoundsInv) (fun _ => { hi with }) fun _ => hi

/-! ### Every move keeps them -/

theorem Aside.keeps_boundsInv {s t : State} (h : Aside s t) (hi : BoundsInv s) : BoundsInv t := by
  cases h
  exact { hi with }

/-- A session that begins has received nothing and stands at the start of the image (R321). -/
theorem sessionBegin_keeps_boundsInv {s : State} (hi : BoundsInv s) (k : Kind) :
    BoundsInv (sessionBegin k s) :=
  { hi with filePos := fun _ _ => Nat.zero_le _, acc := nofun, frame := nofun }

theorem sessionEnd_keeps_boundsInv {s : State} (hi : BoundsInv s) (r : EndReason) :
    BoundsInv (sessionEnd r s) := by
  rw [sessionEnd_frame, sessionEnd_sess]
  exact { hi with filePos := nofun, acc := nofun, frame := nofun }

theorem spiStart_keeps_boundsInv {s : State} (hi : BoundsInv s) (k : Buf) (p : Presenter) :
    BoundsInv (spiStart k p s) :=
  { hi with present := fun _ => hi.latched_length }

theorem spiEnd_keeps_boundsInv {s : State} (hi : BoundsInv s) : BoundsInv (spiEnd s) := by
  rcases spiEnd_cases s with ⟨-, -, e⟩ | ⟨-, e⟩ <;> rw [e] <;> exact { hi with present := nofun }

theorem enterMode_keeps_boundsInv {s : State} (hi : BoundsInv s) (m : Mode) :
    BoundsInv (enterMode m s) :=
  iteInduction (motive := BoundsInv) (fun _ => hi) fun _ => { hi with }

theorem switchComplete_keeps_boundsInv {s : State} (hi : BoundsInv s) :
    BoundsInv (switchComplete s) := by
  have hentered (m : Mode) : BoundsInv (enterMode m { s with fsm.switchPending := false }) :=
    enterMode_keeps_boundsInv (s := { s with fsm.switchPending := false }) { hi with } m
  cases h : s.fsm.switchTarget with
  | navigation =>
    rw [switchComplete_of_navigation h]
    exact hentered .navigation
  | camera =>
    rw [switchComplete_of_camera h]
    exact { sessionBegin_keeps_boundsInv (hentered .camera) .stream with }

/-- The byte pushed is not past the end of its frame (R284). -/
theorem push_acc_le {s : State} (hr : s.sReady = true) :
    (s.source.acc + 1).toNat ≤ s.frameSize := by
  obtain ⟨-, -, -, hlt, -⟩ := (sReady_iff s).1 hr
  exact (Nat.mod_le _ _).trans hlt

/-- The next byte is not past the end of the payload (R372). -/
theorem idx_succ_le {s : State} (h : s.spi.idx < s.spi.len) :
    (s.spi.idx + 1).toNat = s.spi.idx.toNat + 1 ∧ s.spi.idx.toNat + 1 ≤ s.spi.len.toNat := by
  have hlt := BitVec.lt_def.1 h
  have hlen := s.spi.len.isLt
  exact ⟨Nat.mod_eq_of_lt (show s.spi.idx.toNat + 1 < 2 ^ 32 by omega), hlt⟩

theorem Move.keeps_boundsInv {s t : State} (h : Move s t) (ha : ArbiterInv s) (hi : BoundsInv s) :
    BoundsInv t := by
  cases h with
  | stay => exact hi
  | tick b => rw [tickStep_frame]; exact { hi with }
  | register o v hl => exact { writeReg_keeps_boundsInv ha hi hl with }
  | storeBack => rw [setFb_eq]; exact { hi with }
  | busError | storeSource | answer | convertPixel | clearErr | stop | acquire | commandByte | offer
  | pulse => exact { hi with }
  | start k => exact { sessionBegin_keeps_boundsInv hi k with }
  | commit => exact { spiStart_keeps_boundsInv (s := commitAndSwap s) { hi with } _ .host with }
  | cancelled | fail => exact sessionEnd_keeps_boundsInv hi _
  | turn =>
    refine { hi with acc := fun _ hk => ?_, frame := nofun }
    rw [if_pos hk]
    exact Nat.zero_le _
  | takeChunk base pos _ hpos hfits =>
    exact { hi with
      filePos := fun _ _ => hpos, acc := nofun, frame := fun _ => hfits.trans hi.fileLen }
  | takeFrame =>
    refine { hi with acc := nofun, frame := fun _ => ?_ }
    exact (Nat.zero_add _).trans_le hi.frameSize_le
  | convertEnd =>
    have hpainted : BoundsInv (framePass s.source.frameBase.toNat s.back s) := by
      rw [framePass_frame]
      exact { hi with }
    exact { spiStart_keeps_boundsInv (s := commitAndSwap _) { hpainted with } s.back .worker with
      acc := nofun, frame := nofun }
  | presentDone => exact { hi with acc := nofun, frame := nofun }
  | pace => exact { hi with acc := nofun, frame := nofun }
  | payloadByte _ _ hmore =>
    obtain ⟨hidx, hle⟩ := idx_succ_le hmore
    exact { hi with present := fun hb => ⟨(hi.present hb).1, hidx ▸ hle⟩ }
  | presentEnd => exact spiEnd_keeps_boundsInv hi
  | switch => exact switchComplete_keeps_boundsInv hi
  | push x rest hr => exact { hi with acc := fun _ _ => push_acc_le hr }

/-- The reset sizes are the largest ones, which legal parameters make legal (R9, R33). -/
theorem sizeLegal_largest {n : Nat} (heven : n % 2 = 0) (hlo : 2 ≤ n) (hhi : n ≤ 65534) :
    sizeLegal n (BitVec.ofNat 16 n) = true := by
  simp only [sizeLegal, decide_eq_true_eq, BitVec.toNat_ofNat, Nat.mod_eq_of_lt (by omega : n < 2 ^ 16)]
  exact ⟨heven, hlo, le_rfl⟩

theorem resetWith_boundsInv {p : Params} (h : p.legal) : BoundsInv (State.resetWith p) := by
  obtain ⟨hwe, hwl, hwh, hhe, hhl, hhh, -⟩ := id h
  exact {
    params := h
    width := sizeLegal_largest hwe hwl hwh
    height := sizeLegal_largest hhe hhl hhh
    fileLen := Nat.zero_le _
    filePos := nofun
    acc := nofun
    frame := nofun
    present := nofun }

theorem resetStep_boundsInv {s : State} (h : s.params.legal) : BoundsInv (resetStep s) :=
  { resetWith_boundsInv h with }

/-- Settles O53: the arbiter's invariants and the bounds are kept together. -/
theorem stepKeepsTheBounds : Obligations.StepKeepsTheBounds := fun _ _ ha hi h =>
  (step_keeps_of_moves (P := fun s => ArbiterInv s ∧ BoundsInv s)
    (fun haside ⟨ha, hi⟩ => ⟨haside.keeps_arbiterInv ha, haside.keeps_boundsInv hi⟩)
    (fun hmove ⟨ha, hi⟩ => ⟨hmove.keeps_arbiterInv ha, hmove.keeps_boundsInv ha hi⟩)
    (fun ⟨_, hi⟩ => ⟨resetStep_arbiterInv _, resetStep_boundsInv hi.params⟩) ⟨ha, hi⟩ h).2

end Sys2Proof.Machine
end

section
/-! PROOFS. That no error stops the block (R505), and that a present's buffer is not written (R372, R241). -/

namespace Sys2Proof.Machine

/-! ### Progress: each agent's step answers a next state within the bounds -/

namespace Continues

theorem next (t : State) : Continues (.next t) := ⟨t, rfl⟩

theorem of_eq {o : Host.Outcome State Fault Refusal} {t : State} (h : o = .next t) : Continues o :=
  ⟨t, h⟩

end Continues

theorem hostStep_continues (op : HostOp) (s : State) : Continues (hostStep op s) := by
  cases op with
  | read a n => exact .next _
  | write a n v =>
    rw [hostStep]
    rcases hostWrite_cases a n v s with e | ⟨-, -, e⟩ | ⟨-, -, -, e⟩ | ⟨-, o, e⟩ | ⟨-, o, e⟩
    · exact .of_eq e
    · rw [e]
      rcases issue_cases v s with ⟨i, -, e'⟩ | e'
      · exact e' ▸ exec_next i _
      · exact .of_eq e'
    · exact .of_eq e
    · exact .of_eq e
    · exact .of_eq e

theorem programStep_continues (s : State) : Continues (programStep s) := by
  rcases programStep_cases s with ⟨p, sch, e⟩ | ⟨a, m, v, rest, -, ⟨-, e⟩ | ⟨-, e⟩⟩ | ⟨op, p, e⟩
  · exact .of_eq e
  · exact .of_eq e
  · exact .of_eq e
  · exact e ▸ hostStep_continues op _

/-- CONVERT.END finds its frame inside SRC and its buffer large enough (R212). -/
theorem workerStep_continues {s : State} (hi : BoundsInv s) : Continues (workerStep s) := by
  unfold workerStep
  split
  case h_6 hop =>
    have hphase : s.sess.phase = .convert := workerOp_phase hop
    exact .of_eq (convertEnd_of_fits (hi.frame hphase) hi.two_pixels_le)
  all_goals exact .next _

/-- The next payload byte lies inside the framebuffer (R372). -/
theorem idx_lt_fbBytes {s : State} (hi : BoundsInv s) (hb : s.spi.busy = true)
    (hmore : s.spi.idx < s.spi.len) : s.spi.idx.toNat < s.params.fbBytes :=
  (BitVec.lt_def.1 hmore).trans_le ((hi.present hb).1.trans_le hi.two_pixels_le)

theorem spiStep_continues {s : State} (hi : BoundsInv s) : Continues (spiStep s) := by
  unfold spiStep State.spiOp
  split_ifs with hb hbyte hsent
  · exact .next _
  · show Continues (spiByte s)
    unfold spiByte
    split_ifs with hc hin
    · exact .next _
    · exact .next _
    · exact absurd (idx_lt_fbBytes hi (by simpa using hb) (hbyte.resolve_left hc)) hin
  · exact .next _
  · exact .next _

/-- A byte is taken only where the frame, and so SRC, has room for it (R284). -/
theorem pushByte_continues {s : State} (hi : BoundsInv s) : Continues (pushByte s) := by
  by_cases hr : s.sReady = true
  · obtain ⟨-, -, -, hlt, -⟩ := (sReady_iff s).1 hr
    cases ho : s.source.offered with
    | nil => exact .of_eq (t := s) (by simp only [pushByte, ho])
    | cons x rest => exact .of_eq (pushByte_of_ready ho hr (hlt.trans_le hi.frameSize_le))
  · exact .of_eq (pushByte_of_not_ready hr)

theorem producerStep_continues {s : State} (hi : BoundsInv s) (a : ProducerAct) :
    Continues (producerStep a s) := by
  cases a with
  | push => exact pushByte_continues hi
  | offer | close | error => exact .next _

theorem runEvent_continues {s : State} (hi : BoundsInv s) (e : Event) : Continues (runEvent e s) := by
  cases e with
  | tick | modesw | reset => exact .next _
  | host op => exact hostStep_continues op s
  | program => exact programStep_continues s
  | worker => exact workerStep_continues hi
  | spi => exact spiStep_continues hi
  | producer a => exact producerStep_continues hi a

/-- Settles O59: taking the event keeps the bounds, and within them its agent's step does not fault. -/
theorem noErrorStopsTheBlock : Obligations.NoErrorStopsTheBlock := fun s _ hi =>
  runEvent_continues ((Aside.of_takeEvent s).keeps_boundsInv hi) _

/-! ### The framebuffers are written by the host that owns one, and by CONVERT.END -/

theorem fb_eq {s t : State} (h0 : t.fb0 = s.fb0) (h1 : t.fb1 = s.fb1) (b : Buf) : t.fb b = s.fb b := by
  cases b
  · exact h0
  · exact h1

theorem Aside.fb {s t : State} (h : Aside s t) (b : Buf) : t.fb b = s.fb b := by
  cases h
  cases b <;> rfl

theorem Move.keeps_fb {s t : State} (h : Move s t) (howner : s.pool.owner ≠ .host)
    (hphase : s.sess.phase ≠ .convert) (b : Buf) : t.fb b = s.fb b := by
  cases h with
  | tick => rw [tickStep_frame]; exact fb_eq rfl rfl b
  | register => rw [writeReg_frame]; exact fb_eq rfl rfl b
  | storeBack _ _ _ hhost => exact absurd hhost howner
  | convertEnd hconvert => exact absurd hconvert hphase
  | cancelled | fail => exact fb_eq (sessionEnd_fb0 ..) (sessionEnd_fb1 ..) b
  | presentEnd =>
    rcases spiEnd_cases s with ⟨-, -, e⟩ | ⟨-, e⟩ <;> rw [e] <;> exact fb_eq rfl rfl b
  | switch =>
    cases h : s.fsm.switchTarget with
    | navigation =>
      rw [switchComplete_of_navigation h]
      exact fb_eq (enterMode_fb0 ..) (enterMode_fb1 ..) b
    | camera =>
      rw [switchComplete_of_camera h]
      exact fb_eq (enterMode_fb0 ..) (enterMode_fb1 ..) b
  | _ => exact fb_eq rfl rfl b

/-- Settles O60: while a present runs no buffer is owned and the worker is not in CONVERT. -/
theorem presentedBufferIsNotWritten : Obligations.PresentedBufferIsNotWritten := by
  intro e s t ha hb hr h a
  obtain ⟨u, haside, hmove⟩ := runEvent_moves hr h
  have hu := haside.keeps_arbiterInv ha
  have hbusy : u.spi.busy = true := by cases haside; exact hb
  obtain ⟨howner, -⟩ := hu.presenting hbusy
  have hconvert : u.sess.phase ≠ .convert := by
    rcases hu.presentPhase hbusy with h | h <;> simp [h]
  rw [hmove.keeps_fb (by simp [howner]) hconvert, haside.fb]

end Sys2Proof.Machine
end

section
/-! PROOFS. The command port and the memories over every step. -/

namespace Sys2Proof.Machine

/-! ### The command port (R44, R156, R243, R322) -/

/-- No command is pending, and the result is not PENDING. -/
theorem CommandInv.of_idle {t : State} (hidle : t.cmd.pending = .none) (hcode : t.cmd.code ≠ .pending) :
    CommandInv t where
  stopPending := by simp [hidle]
  commitPending := by simp [hidle]
  result := iff_of_false hcode (not_not_intro hidle)

theorem Aside.keeps_commandInv {s t : State} (h : Aside s t) (hi : CommandInv s) : CommandInv t := by
  cases h
  exact { hi with }

/-- A step that only cancels leaves a pending STOP its cancelled session. -/
theorem CommandInv.of_cancel {s t : State} (hi : CommandInv s) (hcmd : t.cmd = s.cmd)
    (hactive : t.sess.active = s.sess.active) (hbusy : t.spi.busy = s.spi.busy)
    (hsrc : t.spi.src = s.spi.src)
    (hcancel : t.sess.cancel = s.sess.cancel ∨ (s.sess.active = true ∧ t.sess.cancel = true)) :
    CommandInv t := by
  constructor
  · intro hstop
    obtain ⟨ha, hc⟩ := hi.stopPending (hcmd ▸ hstop)
    exact ⟨hactive.trans ha, hcancel.elim (·.trans hc) And.right⟩
  · rw [hcmd, hbusy, hsrc]; exact hi.commitPending
  · rw [hcmd]; exact hi.result

/-- Of the registers only CTRL reaches the cancellation flag (R440). -/
theorem writeReg_cancel (o : Nat) (v : Word) (s : State) :
    (writeReg o v s).sess.cancel = s.sess.cancel ∨
      (s.sess.active = true ∧ (writeReg o v s).sess.cancel = true) := by
  unfold writeReg
  split
  case h_1 => exact writeCtrl_cancel v s
  case h_2 | h_3 | h_6 | h_11 | h_13 => exact .inl rfl
  all_goals
    exact .inl (iteInduction (motive := fun t : State => t.sess.cancel = s.sess.cancel)
      (fun _ => rfl) fun _ => rfl)

/-- The end of a session completes a pending STOP, and leaves any other command as it is (R335). -/
theorem sessionEnd_keeps_commandInv {s : State} (hi : CommandInv s) (r : EndReason) :
    CommandInv (sessionEnd r s) := by
  by_cases hstop : s.cmd.pending = .stop
  · exact .of_idle (by simp [hstop]) (by simp [hstop])
  · rw [sessionEnd_frame, sessionEnd_cmd, if_neg hstop]
    exact { hi with stopPending := fun h => absurd h hstop }

/-- The end of a present completes the COMMIT that started it (R373). -/
theorem spiEnd_keeps_commandInv {s : State} (hi : CommandInv s) : CommandInv (spiEnd s) := by
  rcases spiEnd_cases s with ⟨-, -, e⟩ | ⟨hnot, e⟩ <;> rw [e]
  · exact .of_idle rfl nofun
  · exact { hi with commitPending := fun h => absurd ⟨(hi.commitPending h).2, h⟩ hnot }

/-- A switch completes outside a session, where no STOP is pending (R436). -/
theorem switchComplete_keeps_commandInv {s : State} (hi : CommandInv s)
    (hactive : s.sess.active = false) : CommandInv (switchComplete s) := by
  cases h : s.fsm.switchTarget with
  | navigation =>
    rw [switchComplete_of_navigation h]
    apply hi.of_cancel <;> simp
  | camera =>
    rw [switchComplete_of_camera h]
    constructor <;> simp only [sessionBegin_cmd, sessionBegin_spi, enterMode_cmd, enterMode_spi]
    · exact fun hstop => absurd ((hi.stopPending hstop).1.symm.trans hactive) (by decide)
    · exact hi.commitPending
    · exact hi.result

theorem Move.keeps_commandInv {s t : State} (h : Move s t) (ha : ArbiterInv s) (hi : CommandInv s) :
    CommandInv t := by
  cases h with
  | tick b =>
    have hcancel := tickStep_cancel b s
    rw [tickStep_frame] at hcancel ⊢
    exact hi.of_cancel rfl rfl rfl rfl hcancel
  | register o v =>
    have hcancel := writeReg_cancel o v s
    rw [writeReg_frame] at hcancel ⊢
    exact hi.of_cancel rfl rfl rfl rfl hcancel
  | storeBack => rw [setFb_eq]; exact { hi with }
  | answer c d hidle hfinal => exact .of_idle hidle hfinal
  | convertPixel _ hidle | clearErr hidle | start _ hidle | acquire hidle => exact .of_idle hidle nofun
  | stop _ _ hactive => exact ⟨fun _ => ⟨hactive, rfl⟩, nofun, iff_of_true rfl nofun⟩
  | commit => exact ⟨nofun, fun _ => ⟨rfl, rfl⟩, iff_of_true rfl nofun⟩
  | cancelled | fail => exact sessionEnd_keeps_commandInv hi _
  | convertEnd hphase =>
    have hbusy := ha.not_busy (by simp [hphase]) (by simp [hphase])
    rw [framePass_frame]
    exact { hi with
      commitPending := fun hc => absurd ((hi.commitPending hc).1.symm.trans hbusy) (by decide) }
  | presentEnd => exact spiEnd_keeps_commandInv hi
  | switch _ hactive => exact switchComplete_keeps_commandInv hi hactive
  | _ => exact { hi with }

theorem resetStep_commandInv (s : State) : CommandInv (resetStep s) := .of_idle rfl nofun

/-- Settles O54: a command is pending from its own move to the move that completes it. -/
theorem stepKeepsTheCommandPort : Obligations.StepKeepsTheCommandPort := fun _ _ ha hi h =>
  (step_keeps_of_moves (P := fun s => ArbiterInv s ∧ CommandInv s)
    (fun haside ⟨ha, hi⟩ => ⟨haside.keeps_arbiterInv ha, haside.keeps_commandInv hi⟩)
    (fun hmove ⟨ha, hi⟩ => ⟨hmove.keeps_arbiterInv ha, hmove.keeps_commandInv ha hi⟩)
    (fun _ => ⟨resetStep_arbiterInv _, resetStep_commandInv _⟩) ⟨ha, hi⟩ h).2

/-! ### The memories (R71) -/

theorem Aside.keeps_memoryInv {s t : State} (h : Aside s t) (hi : MemoryInv s) : MemoryInv t := by
  cases h
  exact { hi with }

theorem MemoryInv.fb {s : State} (hi : MemoryInv s) (b : Buf) : (s.fb b).wf := by
  cases b
  · exact hi.fb0
  · exact hi.fb1

theorem MemoryInv.setFb {s : State} (hi : MemoryInv s) (b : Buf) {m : Memory} (hm : m.wf) :
    MemoryInv (s.setFb b m) := by
  cases b
  · exact { hi with fb0 := hm }
  · exact { hi with fb1 := hm }

theorem Move.keeps_memoryInv {s t : State} (h : Move s t) (hi : MemoryInv s) : MemoryInv t := by
  cases h with
  | tick => rw [tickStep_frame]; exact { hi with }
  | register => rw [writeReg_frame]; exact { hi with }
  | storeBack o n v =>
    exact { hi.setFb s.back (Memory.writeLanes_wf o n v (hi.fb s.back)) with }
  | storeSource o n v => exact { hi with src := Memory.writeLanes_wf o n v hi.src }
  | cancelled | fail => rw [sessionEnd_frame]; exact { hi with }
  | convertEnd =>
    obtain ⟨fb, d, e, hfb⟩ := framePass_eq s.source.frameBase.toNat s.back s
    rw [e]
    exact { hi.setFb s.back (hfb (hi.fb s.back)) with }
  | presentEnd =>
    rcases spiEnd_cases s with ⟨-, -, e⟩ | ⟨-, e⟩ <;> rw [e] <;> exact { hi with }
  | switch =>
    obtain ⟨h0, h1, hsrc⟩ := hi
    cases h : s.fsm.switchTarget with
    | navigation => rw [switchComplete_of_navigation h]; constructor <;> simpa
    | camera => rw [switchComplete_of_camera h]; constructor <;> simpa
  | push x rest => exact { hi with src := Memory.write_wf _ x hi.src }
  | _ => exact { hi with }

theorem resetWith_memoryInv (p : Params) : MemoryInv (State.resetWith p) :=
  let ⟨h0, h1, hsrc⟩ := resetWith_memory_wf p
  ⟨h0, h1, hsrc⟩

/-- Settles O57: the four moves that store do so by `write`, which keeps the form. -/
theorem stepKeepsMemoriesCanonical : Obligations.StepKeepsMemoriesCanonical := fun _ _ =>
  step_keeps_of_moves Aside.keeps_memoryInv Move.keeps_memoryInv
    fun {s} _ => { resetWith_memoryInv s.params with }

end Sys2Proof.Machine
end

section
/-! PROOFS. The mode-select FSM and the error record over every step. -/

namespace Sys2Proof.Machine

/-! ### The mode select and the error record (R41, R430, R433, R440, R443, R502) -/

theorem Aside.keeps_modeInv {s t : State} (h : Aside s t) (hi : ModeInv s) : ModeInv t := by
  cases h
  exact { hi with }

/-- A requested switch ends the gesture (R435). -/
theorem switchRequest_keeps_modeInv {s : State} (hen : s.fsm.en = true)
    (hcause : s.err.cause ≠ .eos ∧ s.err.cause ≠ .allocFail) (m : Mode) :
    ModeInv (switchRequest m s) where
  holdCnt := iff_of_true rfl rfl
  gesture := fun h => absurd rfl h
  switchEn := fun _ => hen
  camera := nofun
  cause := hcause

/-- The gesture is over, and no switch came of it (R434). -/
theorem ModeInv.of_gesture_idle {s : State} (hi : ModeInv s) (b : ButtonEvent) :
    ModeInv { s with fsm.gesture := .idle, fsm.holdCnt := 0, fsm.lastEvent := b } :=
  { hi with holdCnt := iff_of_true rfl rfl, gesture := fun h => absurd rfl h }

/-- A gesture is under way: its count is not 0. -/
theorem ModeInv.of_gesture_down {s : State} (hi : ModeInv s) (hen : s.fsm.en = true)
    (hpending : s.fsm.switchPending = false) {g : Gesture} {n : Byte} (hg : g ≠ .idle) (hn : n ≠ 0)
    (b : ButtonEvent) :
    ModeInv { s with fsm.gesture := g, fsm.holdCnt := n, fsm.lastEvent := b } :=
  { hi with holdCnt := iff_of_false hg hn, gesture := fun _ => ⟨hen, hpending⟩ }

/-- HOLD_CNT saturates, so it does not wrap to 0 (R433). -/
theorem bumpHold_ne_zero (x : Byte) : bumpHold x ≠ 0 := by
  intro h
  have hzero := congrArg BitVec.toNat h
  rw [bumpHold_eq_ofNat, BitVec.toNat_ofNat] at hzero
  change _ = 0 at hzero
  omega

theorem gestureIdle_keeps_modeInv {s : State} (hi : ModeInv s) (hen : s.fsm.en = true)
    (hpending : s.fsm.switchPending = false) (w : WindowEnd) : ModeInv (gestureIdle w s) :=
  iteInduction (motive := ModeInv)
    (fun _ => hi.of_gesture_down (g := .pressed) (n := 1) hen hpending nofun (by decide) _) fun _ => { hi with }

theorem gestureDown_keeps_modeInv {s : State} (hi : ModeInv s) (hen : s.fsm.en = true)
    (hpending : s.fsm.switchPending = false) (w : WindowEnd) : ModeInv (gestureDown w s) := by
  by_cases hr : w.r = .high
  · rw [gestureDown_of_high hr]
    exact hi.of_gesture_down (g := .held) hen hpending nofun (bumpHold_ne_zero _) _
  · rw [gestureDown_of_not_high hr]
    rcases Nat.lt_or_ge s.fsm.holdCnt.toNat s.fsm.holdMin.toNat with hshort | hheld
    · rw [gestureRelease_of_short hshort]
      exact hi.of_gesture_idle _
    · rw [gestureRelease_of_held hheld]
      exact { switchRequest_keeps_modeInv hen hi.cause s.fsm.mode.other with }

theorem gestureStep_keeps_modeInv {s : State} (hi : ModeInv s) (w : WindowEnd) :
    ModeInv (gestureStep w s) := by
  by_cases hignored : s.fsm.en = false ∨ s.fsm.switchPending = true ∨ w.r = .unstable
  · rwa [gestureStep_of_ignored hignored]
  · simp only [not_or, Bool.not_eq_false, Bool.not_eq_true] at hignored
    obtain ⟨hen, hpending, hr⟩ := hignored
    by_cases hg : s.fsm.gesture = .idle
    · rw [gestureStep_of_idle hen hpending hr hg]
      exact gestureIdle_keeps_modeInv hi hen hpending w
    · rw [gestureStep_of_down hen hpending hr hg]
      exact gestureDown_keeps_modeInv hi hen hpending w

theorem dwellStep_keeps_modeInv {s : State} (hi : ModeInv s) : ModeInv (dwellStep s) := by
  by_cases hc : s.dwellCounts
  · by_cases he : s.dwellExpires
    · rw [dwellStep_of_expired hc he]
      refine switchRequest_keeps_modeInv ?_ ?_ .navigation
      · exact hc.1
      · exact hi.cause
    · rw [dwellStep_of_running hc he]
      exact { hi with }
  · rwa [dwellStep_of_not_counting hc]

theorem tickStep_keeps_modeInv {s : State} (hi : ModeInv s) (b : Bool) : ModeInv (tickStep b s) := by
  have hdebounced : ModeInv (debounceStep s.deb.sync2 (synchronise b s)).1 := by
    rw [debounceStep_frame]
    exact { hi with }
  cases h : (debounceStep s.deb.sync2 (synchronise b s)).2 with
  | none =>
    rw [tickStep_of_no_window h]
    exact { dwellStep_keeps_modeInv hdebounced with }
  | some w =>
    rw [tickStep_of_window h]
    exact { dwellStep_keeps_modeInv (gestureStep_keeps_modeInv hdebounced w) with }

section Ctrl

variable {v : Word} {s : State}

/-- A write of CTRL that does not change MODE_EN has no side effect (R440). -/
theorem writeCtrl_of_same (h : s.fsm.en = v.getLsbD 0) :
    writeCtrl v s = { s with fsm.en := v.getLsbD 0, geom.uvSwap := v.getLsbD 1 } := by
  unfold writeCtrl
  rw [h]
  cases v.getLsbD 0 <;> rfl

theorem writeCtrl_of_rise (hs : s.fsm.en = false) (hv : v.getLsbD 0 = true) :
    writeCtrl v s = switchRequest .navigation
      { s with fsm.en := v.getLsbD 0, geom.uvSwap := v.getLsbD 1 } := by
  simp only [writeCtrl, hs, hv, modeEnEffect]

theorem writeCtrl_of_fall (hs : s.fsm.en = true) (hv : v.getLsbD 0 = false) :
    writeCtrl v s =
      { s with
        fsm.en := v.getLsbD 0
        geom.uvSwap := v.getLsbD 1
        fsm.gesture := .idle
        fsm.holdCnt := 0 } := by
  simp only [writeCtrl, hs, hv, modeEnEffect]

end Ctrl

/-- CTRL is locked while a switch is pending, so the FSM is not disabled in the middle of one (R41, R440). -/
theorem writeCtrl_keeps_modeInv {s : State} (hi : ModeInv s) {v : Word}
    (hpending : s.fsm.switchPending = false) : ModeInv (writeCtrl v s) := by
  by_cases hsame : s.fsm.en = v.getLsbD 0
  · rw [writeCtrl_of_same hsame, ← hsame]
    exact { hi with }
  · have hen : s.fsm.en = !v.getLsbD 0 := Bool.eq_not.2 hsame
    cases hv : v.getLsbD 0 with
    | true =>
      rw [writeCtrl_of_rise (by rw [hen, hv]; rfl) hv]
      refine switchRequest_keeps_modeInv ?_ ?_ .navigation
      · exact hv
      · exact hi.cause
    | false =>
      rw [writeCtrl_of_fall (by rw [hen, hv]; rfl) hv, hv]
      exact
        { holdCnt := iff_of_true rfl rfl
          gesture := fun h => absurd rfl h
          switchEn := fun h => absurd (hpending.symm.trans h) (by decide)
          camera := nofun
          cause := hi.cause }

theorem writeReg_keeps_modeInv {s : State} (hi : ModeInv s) {o : Nat} {v : Word}
    (hl : regLocked o v s = false) : ModeInv (writeReg o v s) := by
  unfold writeReg
  split
  case h_1 =>
    have hpending : s.fsm.switchPending = false := (Bool.or_eq_false_iff.1 hl).1
    exact writeCtrl_keeps_modeInv hi hpending
  case h_2 | h_3 | h_6 | h_11 | h_13 => exact { hi with }
  all_goals exact iteInduction (motive := ModeInv) (fun _ => { hi with }) fun _ => hi

/-- A session that ends records one of the causes that a rule produces, or none (R335, R502). -/
theorem sessionEnd_keeps_modeInv {s : State} (hi : ModeInv s) {r : EndReason}
    (hcause : (sessionEnd r s).err.cause ≠ .eos ∧ (sessionEnd r s).err.cause ≠ .allocFail) :
    ModeInv (sessionEnd r s) := by
  rw [sessionEnd_frame, sessionEnd_sess] at hcause ⊢
  exact { hi with camera := nofun, cause := hcause }

/-- MODE takes the target, and MODE_CHANGE is raised if that is another mode (R437). -/
theorem enterMode_eq (m : Mode) (s : State) :
    enterMode m s =
      { s with
        fsm.mode := m
        rep.irqPend := if s.fsm.mode = m then s.rep.irqPend
          else s.rep.irqPend ||| Irq.modeChange.mask } := by
  unfold enterMode
  split_ifs with h
  · rw [← h]
  · rfl

theorem enterMode_fsm (m : Mode) (s : State) : (enterMode m s).fsm = { s.fsm with mode := m } := by
  rw [enterMode_eq]

/-- A completed switch leaves no gesture, since it was pending, and in Camera mode the session is a Stream
one (R436, R443). -/
theorem switchComplete_keeps_modeInv {s : State} (hi : ModeInv s)
    (hpending : s.fsm.switchPending = true) (hactive : s.sess.active = false) :
    ModeInv (switchComplete s) := by
  have hidle : s.fsm.gesture = .idle :=
    not_not.1 fun hg => absurd (hpending.symm.trans (hi.gesture hg).2) (by decide)
  have hcount := hi.holdCnt.1 hidle
  obtain ⟨heos, halloc⟩ := hi.cause
  cases h : s.fsm.switchTarget with
  | navigation =>
    rw [switchComplete_of_navigation h]
    constructor <;> simp [enterMode_fsm, hidle, hcount, hactive, heos, halloc]
  | camera =>
    rw [switchComplete_of_camera h]
    constructor <;> simp [enterMode_fsm, hidle, hcount, heos, halloc]

theorem Move.keeps_modeInv {s t : State} (h : Move s t) (hi : ModeInv s) : ModeInv t := by
  cases h with
  | tick b => exact tickStep_keeps_modeInv hi b
  | register o v hl => exact { writeReg_keeps_modeInv hi hl with }
  | storeBack => rw [setFb_eq]; exact { hi with }
  | clearErr => exact { hi with cause := ⟨nofun, nofun⟩ }
  | start k _ _ _ _ hcamera =>
    exact { hi with
      camera := fun hen _ _ =>
        have ⟨hmode, hkind, _⟩ := hcamera hen
        ⟨hmode, hkind⟩ }
  | stop => exact { hi with }
  | cancelled => exact sessionEnd_keeps_modeInv hi (by simpa using hi.cause)
  | fail c _ hc => exact sessionEnd_keeps_modeInv hi (by rcases hc with rfl | rfl <;> simp)
  | convertEnd => rw [framePass_frame]; exact { hi with }
  | presentEnd =>
    rcases spiEnd_cases s with ⟨-, -, e⟩ | ⟨-, e⟩ <;> rw [e] <;> exact { hi with }
  | switch hpending hactive => exact switchComplete_keeps_modeInv hi hpending hactive
  | _ => exact { hi with }

theorem resetWith_modeInv (p : Params) : ModeInv (State.resetWith p) where
  holdCnt := iff_of_true rfl rfl
  gesture := fun h => absurd rfl h
  switchEn := nofun
  camera := nofun
  cause := ⟨nofun, nofun⟩

/-- Settles O55: the FSM's steps keep its invariants, and no other step writes what they speak of but START,
the end of a session and CLEAR_ERR. -/
theorem stepKeepsTheModeInvariants : Obligations.StepKeepsTheModeInvariants := fun _ _ =>
  step_keeps_of_moves Aside.keeps_modeInv Move.keeps_modeInv
    fun {s} _ => { resetWith_modeInv s.params with }

end Sys2Proof.Machine
end

section
/-! PROOFS. The WARL registers, the debouncer's window and the SPI pins over every step, and all the invariants
right after reset. -/

namespace Sys2Proof.Machine

/-! ### The debounce step, by what DB_TMR and DB_K say (R401, R402) -/

section DebounceStep

variable {l : Bool} {s : State}

theorem debounceStep_of_waiting (ht : s.deb.tmr ≠ 0) :
    debounceStep l s = ({ s with deb.tmr := s.deb.tmr - 1 }, none) :=
  if_pos ht

theorem debounceStep_of_sample (ht : s.deb.tmr = 0) (hk : s.deb.k + 1 ≠ s.deb.count) :
    debounceStep l s = (takeSample l s, none) :=
  (if_neg (not_not_intro ht)).trans (if_neg hk)

theorem debounceStep_of_last (ht : s.deb.tmr = 0) (hk : s.deb.k + 1 = s.deb.count) :
    debounceStep l s =
      (closeWindow (takeSample l s), some ⟨(takeSample l s).windowResult, s.deb.lastStable⟩) :=
  (if_neg (not_not_intro ht)).trans (if_pos hk)

end DebounceStep

/-! ### The WARL registers and the window (R56, R57, R58, R61, R401, R402) -/

theorem Aside.keeps_registerInv {s t : State} (h : Aside s t) (hi : RegisterInv s) :
    RegisterInv t := by
  cases h
  exact { hi with }

theorem RegisterInv.congr {s t : State} (hi : RegisterInv s) (hdeb : t.deb = s.deb)
    (hhold : t.fsm.holdMin = s.fsm.holdMin) (hdiv : t.spi.div = s.spi.div) : RegisterInv t := by
  constructor
  · rw [hdeb]; exact hi.interval
  · rw [hdeb]; exact hi.count
  · rw [hhold]; exact hi.holdMin
  · rw [hdiv]; exact hi.div
  · rw [hdeb]; exact hi.k
  · rw [hdeb]; exact hi.tmr

/-- A restarted window lies inside any legal registers (R403). -/
theorem restartWindow_keeps_registerInv {s : State} (hinterval : s.deb.interval ≠ 0)
    (hcount : s.deb.count ≠ 0) (hhold : s.fsm.holdMin ≠ 0) (hdiv : s.spi.div ≠ 0) :
    RegisterInv (restartWindow s) where
  interval := hinterval
  count := hcount
  holdMin := hhold
  div := hdiv
  k := show 0 < s.deb.count by bv_omega
  tmr := show 0 < s.deb.interval by bv_omega

theorem takeSample_tmr_lt {s : State} (h : s.deb.interval ≠ 0) (l : Bool) :
    (takeSample l s).deb.tmr < s.deb.interval :=
  show s.deb.interval - 1 < s.deb.interval by bv_omega

theorem debounceStep_keeps_registerInv {s : State} (hi : RegisterInv s) (l : Bool) :
    RegisterInv (debounceStep l s).1 := by
  obtain ⟨hinterval, hcount, hhold, hdiv, hk, htmr⟩ := hi
  by_cases ht : s.deb.tmr = 0
  · have htmr' := takeSample_tmr_lt hinterval l
    by_cases hlast : s.deb.k + 1 = s.deb.count
    · rw [debounceStep_of_last ht hlast]
      exact ⟨hinterval, hcount, hhold, hdiv, show 0 < s.deb.count by bv_omega, htmr'⟩
    · rw [debounceStep_of_sample ht hlast]
      exact ⟨hinterval, hcount, hhold, hdiv, show s.deb.k + 1 < s.deb.count by bv_omega, htmr'⟩
  · rw [debounceStep_of_waiting ht]
    exact ⟨hinterval, hcount, hhold, hdiv, hk, show s.deb.tmr - 1 < s.deb.interval by bv_omega⟩

theorem gestureStep_holdMin (w : WindowEnd) (s : State) :
    (gestureStep w s).fsm.holdMin = s.fsm.holdMin := by
  have hidle : (gestureIdle w s).fsm.holdMin = s.fsm.holdMin := by
    unfold gestureIdle; split_ifs <;> rfl
  have hdown : (gestureDown w s).fsm.holdMin = s.fsm.holdMin := by
    unfold gestureDown gestureRelease; split_ifs <;> rfl
  unfold gestureStep
  split_ifs
  · rfl
  · cases s.fsm.gesture
    · exact hidle
    · exact hdown
    · exact hdown

theorem dwellStep_holdMin (s : State) : (dwellStep s).fsm.holdMin = s.fsm.holdMin := by
  by_cases hc : s.dwellCounts
  · by_cases he : s.dwellExpires
    · rw [dwellStep_of_expired hc he]; rfl
    · rw [dwellStep_of_running hc he]
  · rw [dwellStep_of_not_counting hc]

theorem dwellStep_keeps_registerInv {s : State} (hi : RegisterInv s) : RegisterInv (dwellStep s) :=
  hi.congr (dwellStep_deb s) (dwellStep_holdMin s) (by rw [dwellStep_frame])

theorem tickStep_keeps_registerInv {s : State} (hi : RegisterInv s) (b : Bool) :
    RegisterInv (tickStep b s) := by
  have hdebounced : RegisterInv (debounceStep s.deb.sync2 (synchronise b s)).1 :=
    debounceStep_keeps_registerInv (s := synchronise b s) { hi with } _
  cases h : (debounceStep s.deb.sync2 (synchronise b s)).2 with
  | none =>
    rw [tickStep_of_no_window h]
    exact { dwellStep_keeps_registerInv hdebounced with }
  | some w =>
    rw [tickStep_of_window h]
    have hgestured := hdebounced.congr (gestureStep_deb w _) (gestureStep_holdMin w _)
      (by rw [gestureStep_frame])
    exact { dwellStep_keeps_registerInv hgestured with }

theorem writeCtrl_holdMin (v : Word) (s : State) :
    (writeCtrl v s).fsm.holdMin = s.fsm.holdMin := by
  unfold writeCtrl modeEnEffect
  split <;> rfl

/-- R32: a WARL register takes a legal value alone. -/
theorem writeReg_keeps_registerInv {s : State} (hi : RegisterInv s) (o : Nat) (v : Word) :
    RegisterInv (writeReg o v s) := by
  unfold writeReg
  split
  case h_1 => exact hi.congr (by simp [writeCtrl]) (writeCtrl_holdMin v s) (by simp [writeCtrl])
  case h_2 | h_3 | h_6 | h_11 | h_13 => exact { hi with }
  case h_4 | h_5 | h_7 => exact iteInduction (motive := RegisterInv) (fun _ => { hi with }) fun _ => hi
  case h_8 =>
    exact iteInduction (motive := RegisterInv)
      (fun h => restartWindow_keeps_registerInv h hi.count hi.holdMin hi.div) fun _ => hi
  case h_9 =>
    exact iteInduction (motive := RegisterInv)
      (fun h => restartWindow_keeps_registerInv hi.interval h hi.holdMin hi.div) fun _ => hi
  case h_10 =>
    exact iteInduction (motive := RegisterInv) (fun h => { hi with holdMin := h }) fun _ => hi
  case h_12 =>
    exact iteInduction (motive := RegisterInv) (fun h => { hi with div := h }) fun _ => hi

theorem Move.keeps_registerInv {s t : State} (h : Move s t) (hi : RegisterInv s) :
    RegisterInv t := by
  cases h with
  | tick b => exact tickStep_keeps_registerInv hi b
  | register o v => exact { writeReg_keeps_registerInv hi o v with }
  | storeBack => rw [setFb_eq]; exact { hi with }
  | cancelled | fail => rw [sessionEnd_frame]; exact { hi with }
  | convertEnd => rw [framePass_frame]; exact { hi with }
  | presentEnd =>
    rcases spiEnd_cases s with ⟨-, -, e⟩ | ⟨-, e⟩ <;> rw [e] <;> exact { hi with }
  | switch =>
    cases h : s.fsm.switchTarget with
    | navigation => rw [switchComplete_of_navigation h]; apply hi.congr <;> simp [enterMode_fsm]
    | camera => rw [switchComplete_of_camera h]; apply hi.congr <;> simp [enterMode_fsm]
  | _ => exact { hi with }

theorem resetWith_registerInv {p : Params} (h : p.legal) : RegisterInv (State.resetWith p) := by
  obtain ⟨-, -, -, -, -, -, -, -, -, hlo, hhi, -⟩ := h
  have hinterval : BitVec.ofNat 16 p.debIntervalRst ≠ 0 := fun h => by
    have hzero := congrArg BitVec.toNat h
    rw [BitVec.toNat_ofNat, Nat.mod_eq_of_lt (by omega)] at hzero
    exact absurd hzero (Nat.ne_of_gt hlo)
  exact
    { interval := hinterval
      count := show (10 : Byte) ≠ 0 by decide
      holdMin := show (1 : Byte) ≠ 0 by decide
      div := show (1 : Byte) ≠ 0 by decide
      k := show (0 : Byte) < 10 by decide
      tmr := show 0 < BitVec.ofNat 16 p.debIntervalRst by bv_omega }

/-! ### The SPI pins (R370, R372, R373, R374) -/

theorem Aside.keeps_pinInv {s t : State} (h : Aside s t) (hi : PinInv s) : PinInv t := by
  cases h
  exact { hi with }

/-- A present begins with chip select low, no byte sent, and its command byte first (R371, R374). -/
theorem spiStart_keeps_pinInv {s : State} (hclock : s.spi.sclk = false) (k : Buf) (p : Presenter) :
    PinInv (spiStart k p s) where
  chipSelect := rfl
  clock := hclock
  idle := nofun
  sent := fun _ => rfl
  commandFirst := fun _ _ => rfl

/-- The released pins stand at their idle levels (R373). -/
theorem spiEnd_keeps_pinInv {s : State} (hi : PinInv s) : PinInv (spiEnd s) := by
  rcases spiEnd_cases s with ⟨-, -, e⟩ | ⟨-, e⟩ <;> rw [e] <;>
    exact ⟨rfl, hi.clock, fun _ => ⟨rfl, rfl⟩, nofun, nofun⟩

theorem spiCommandByte_keeps_pinInv {s : State} (hi : PinInv s) (hbusy : s.spi.busy = true) :
    PinInv (spiCommandByte s) where
  chipSelect := hi.chipSelect
  clock := rfl
  idle := fun h => absurd (hbusy.symm.trans h) (by decide)
  sent := hi.sent
  commandFirst := nofun

/-- One more byte is sent, and SPI_IDX counts it. -/
theorem spiPayloadByte_keeps_pinInv {s : State} (hi : PinInv s) (hbusy : s.spi.busy = true)
    (hcmd : s.spi.cmdPhase = false) (hmore : s.spi.idx < s.spi.len) : PinInv (spiPayloadByte s) where
  chipSelect := hi.chipSelect
  clock := rfl
  idle := fun h => absurd (hbusy.symm.trans h) (by decide)
  sent := fun _ => List.length_append.trans
    ((congrArg (· + 1) (hi.sent hbusy)).trans (idx_succ_le hmore).1.symm)
  commandFirst := fun _ h => absurd (hcmd.symm.trans h) (by decide)

theorem Move.keeps_pinInv {s t : State} (h : Move s t) (hi : PinInv s) : PinInv t := by
  cases h with
  | tick => rw [tickStep_frame]; exact { hi with }
  | register => rw [writeReg_frame]; exact { hi with }
  | storeBack => rw [setFb_eq]; exact { hi with }
  | commit => exact { spiStart_keeps_pinInv (s := commitAndSwap s) hi.clock _ .host with }
  | cancelled | fail => rw [sessionEnd_frame]; exact { hi with }
  | convertEnd =>
    rw [framePass_frame]
    exact { spiStart_keeps_pinInv hi.clock s.back .worker with }
  | commandByte hbusy => exact spiCommandByte_keeps_pinInv hi hbusy
  | payloadByte hbusy hcmd hmore => exact spiPayloadByte_keeps_pinInv hi hbusy hcmd hmore
  | presentEnd => exact spiEnd_keeps_pinInv hi
  | switch =>
    obtain ⟨hcs, hclock, hidle, hsent, hfirst⟩ := hi
    cases h : s.fsm.switchTarget with
    | navigation => rw [switchComplete_of_navigation h]; constructor <;> simpa
    | camera => rw [switchComplete_of_camera h]; constructor <;> simpa
  | _ => exact { hi with }

theorem resetWith_pinInv (p : Params) : PinInv (State.resetWith p) :=
  ⟨rfl, rfl, fun _ => ⟨rfl, rfl⟩, nofun, nofun⟩

theorem resetStep_pinInv (s : State) : PinInv (resetStep s) :=
  { resetWith_pinInv s.params with }

/-! ### The parameters never change (R9) -/

theorem Aside.params {s t : State} (h : Aside s t) : t.params = s.params := by
  cases h
  rfl

/-- No move changes the parameters, or moves on in the host's program. -/
theorem Move.outside {s t : State} (h : Move s t) : t.params = s.params ∧ t.program = s.program := by
  cases h with
  | tick => rw [tickStep_frame]; exact ⟨rfl, rfl⟩
  | register => rw [writeReg_frame]; exact ⟨rfl, rfl⟩
  | storeBack => simp
  | cancelled | fail => simp
  | convertEnd => rw [framePass_frame]; exact ⟨rfl, rfl⟩
  | presentEnd => rcases spiEnd_cases s with ⟨-, -, e⟩ | ⟨-, e⟩ <;> rw [e] <;> exact ⟨rfl, rfl⟩
  | switch => cases h : s.fsm.switchTarget <;> simp [switchComplete, h]
  | _ => exact ⟨rfl, rfl⟩

theorem Move.params {s t : State} (h : Move s t) : t.params = s.params := h.outside.1

theorem Move.program {s t : State} (h : Move s t) : t.program = s.program := h.outside.2

/-- Settles O56: the parameters stay legal, for the reset that reads them, and the registers and the pins
each keep their own. -/
theorem stepKeepsRegistersAndPins : Obligations.StepKeepsRegistersAndPins := fun _ _ hp hr hi h =>
  (step_keeps_of_moves (P := fun s => s.params.legal ∧ RegisterInv s ∧ PinInv s)
    (fun haside ⟨hp, hr, hi⟩ =>
      ⟨haside.params ▸ hp, haside.keeps_registerInv hr, haside.keeps_pinInv hi⟩)
    (fun hmove ⟨hp, hr, hi⟩ => ⟨hmove.params ▸ hp, hmove.keeps_registerInv hr, hmove.keeps_pinInv hi⟩)
    (fun ⟨hp, _, _⟩ => ⟨hp, { resetWith_registerInv hp with }, resetStep_pinInv _⟩)
    ⟨hp, hr, hi⟩ h).2

/-! ### Right after reset -/

/-- Settles O58: the parameters that R9 leaves open are legal, and each invariant holds after a reset with legal
parameters. -/
theorem resetMeetsTheInvariants : Obligations.ResetMeetsTheInvariants :=
  have hlegal := Config.params_legal
  ⟨resetWith_arbiterInv _, resetWith_boundsInv hlegal, .of_idle rfl nofun, resetWith_modeInv _,
    resetWith_registerInv hlegal, resetWith_pinInv _, resetWith_memoryInv _⟩

end Sys2Proof.Machine
end

section
/-! PROOFS. The encoder of 30_encoding.md and the decoder are inverse to each other on the well-formed commands
and the legal words. -/

namespace Sys2Proof

/-! ### A word is its fields side by side (R150, R151) -/

theorem eq_opcode_append_operand (w : Word) : w = opcodeOf w ++ operandOf w := by
  apply BitVec.eq_of_toNat_eq
  simp only [opcodeOf, operandOf, Machine.toNat_append_eq_add, BitVec.extractLsb'_toNat,
    Nat.shiftRight_eq_div_pow]
  omega

/-- Layout P: the operand is the three samples. -/
theorem eq_opcode_append_samples (w : Word) :
    w = opcodeOf w ++ w.extractLsb' 16 8 ++ w.extractLsb' 8 8 ++ w.extractLsb' 0 8 := by
  apply BitVec.eq_of_toNat_eq
  simp only [opcodeOf, Machine.toNat_append_eq_add, BitVec.extractLsb'_toNat,
    Nat.shiftRight_eq_div_pow]
  omega

/-! ### Decoding an encoding -/

theorem sampleFits_iff (x : Nat) : sampleFits x = true ↔ x < 256 := decide_eq_true_iff

theorem toNat_ofNat_of_sampleFits {x : Nat} (h : sampleFits x = true) : (BitVec.ofNat 8 x).toNat = x :=
  Nat.mod_eq_of_lt ((sampleFits_iff x).1 h)

theorem decode_encode {i : Instr} (h : i.wf = true) : decode (encode i) = .ok i := by
  cases i with
  | convertPixel y u v =>
    simp only [Instr.wf, Bool.and_eq_true] at h
    obtain ⟨⟨hy, hu⟩, hv⟩ := h
    rw [encode, Machine.decode_convertPixel, toNat_ofNat_of_sampleFits hy,
      toNat_ofNat_of_sampleFits hu, toNat_ofNat_of_sampleFits hv]
  | nop | startFile | startStream | stop | acquire | commit | clearErr => decide

/-- Settles O1: the samples of CONVERT_PIXEL come back from their fields, and every other command has one
word. -/
theorem decodeOfEncode : Obligations.DecodeOfEncode := fun _ => decode_encode

/-! ### Encoding a decoding -/

theorem decodeN_eq_ok {w : Word} {i j : Instr} (h : decodeN w i = .ok j) : operandOf w = 0#24 ∧ j = i := by
  unfold decodeN at h
  split_ifs at h with hop
  exact ⟨hop, (Except.ok.inj h).symm⟩

theorem decodeS_eq_ok {w : Word} {j : Instr} (h : decodeS w = .ok j) :
    (operandOf w = 0#24 ∧ j = .startFile) ∨ (operandOf w = 1#24 ∧ j = .startStream) := by
  unfold decodeS at h
  split_ifs at h with hfile hstream
  · exact .inl ⟨hfile, (Except.ok.inj h).symm⟩
  · exact .inr ⟨hstream, (Except.ok.inj h).symm⟩

/-- The fields of a word fix it (layouts N and S). -/
theorem eq_of_fields {w : Word} {o : BitVec 8} {f : BitVec 24} (ho : opcodeOf w = o)
    (hf : operandOf w = f) : o ++ f = w := by
  rw [← ho, ← hf, ← eq_opcode_append_operand]

theorem encode_convertPixel_samples {w : Word} (ho : opcodeOf w = 0x01#8) :
    encode (.convertPixel (sampleY w) (sampleU w) (sampleV w)) = w := by
  simp only [encode, sampleY, sampleU, sampleV, BitVec.ofNat_toNat, BitVec.setWidth_eq]
  rw [← ho, ← eq_opcode_append_samples]

theorem wf_convertPixel_samples (w : Word) :
    (Instr.convertPixel (sampleY w) (sampleU w) (sampleV w)).wf = true := by
  have fits (x : BitVec 8) : sampleFits x.toNat = true := (sampleFits_iff _).2 x.isLt
  simp only [Instr.wf, sampleY, sampleU, sampleV, fits, Bool.and_self]

/-- A word of layout N decodes to its opcode's command, whose encoding it is. -/
theorem wf_and_encode_of_decodeN {w : Word} {i j : Instr} (h : decodeN w i = .ok j)
    (hi : encode i = opcodeOf w ++ 0#24) (hwf : i.wf = true) : j.wf = true ∧ encode j = w := by
  obtain ⟨hf, rfl⟩ := decodeN_eq_ok h
  exact ⟨hwf, hi.trans (eq_of_fields rfl hf)⟩

/-- Settles O2: the cases are the decoder's, and in each the opcode and the operand are known. -/
theorem encodeOfDecode : Obligations.EncodeOfDecode := by
  intro w i h
  unfold decode at h
  split_ifs at h with h0 h1 h2 h3 h4 h5 h6
  case pos => exact wf_and_encode_of_decodeN h (by rw [h0]; rfl) rfl
  case pos =>
    obtain rfl := Except.ok.inj h
    exact ⟨wf_convertPixel_samples w, encode_convertPixel_samples h1⟩
  case pos =>
    rcases decodeS_eq_ok h with ⟨hf, rfl⟩ | ⟨hf, rfl⟩
    · exact ⟨rfl, eq_of_fields h2 hf⟩
    · exact ⟨rfl, eq_of_fields h2 hf⟩
  case pos => exact wf_and_encode_of_decodeN h (by rw [h3]; rfl) rfl
  case pos => exact wf_and_encode_of_decodeN h (by rw [h4]; rfl) rfl
  case pos => exact wf_and_encode_of_decodeN h (by rw [h5]; rfl) rfl
  case pos => exact wf_and_encode_of_decodeN h (by rw [h6]; rfl) rfl

/-- Settles O4: closed words, evaluated. -/
theorem tableWordsDecode : Obligations.TableWordsDecode := by
  unfold Obligations.TableWordsDecode
  decide

end Sys2Proof
end

section
/-! PROOFS. Interrupts (60_exceptions.md), the configuration registers and CTRL (10_state.md), the completion of
a mode switch, FETCH.FILE and reset: what each does, by its guards. -/

namespace Sys2Proof.Machine

/-! ### Interrupts (R46, R510, R511) -/

/-- The source's bit of IRQ_PEND (R46). -/
def Irq.bit : Irq → Nat
  | .frameDone => 0
  | .sessionEnd => 1
  | .modeChange => 2
  | .cmdDone => 3
  | .busErr => 4

theorem Irq.bit_lt (e : Irq) : e.bit < 5 := by cases e <;> decide

theorem Irq.mask_eq_twoPow (e : Irq) : e.mask = BitVec.twoPow 5 e.bit := by cases e <;> rfl

theorem Irq.mask_getLsbD (e : Irq) (b : Nat) : e.mask.getLsbD b = decide (e.bit = b) := by
  rw [Irq.mask_eq_twoPow, BitVec.getLsbD_twoPow, decide_eq_true e.bit_lt, Bool.true_and]

theorem irqSet_getLsbD (e : Irq) (s : State) (b : Nat) :
    (irqSet e s).rep.irqPend.getLsbD b = (s.rep.irqPend.getLsbD b || decide (e.bit = b)) := by
  rw [irqSet_rep, BitVec.getLsbD_or, Irq.mask_getLsbD]

theorem ne_zero_iff_exists_getLsbD {n : Nat} (x : BitVec n) :
    x ≠ 0 ↔ ∃ b, b < n ∧ x.getLsbD b = true := by
  constructor
  · intro hx
    by_contra! hbits
    exact hx (BitVec.eq_of_getLsbD_eq fun b hb => by simpa using hbits b hb)
  · rintro ⟨b, -, hb⟩ rfl
    simp at hb

theorem irq_iff (s : State) :
    s.irq = true ↔
      ∃ b, b < 5 ∧ s.rep.irqPend.getLsbD b = true ∧ s.rep.irqEn.getLsbD b = true := by
  simp only [State.irq, bne_iff_ne, ne_zero_iff_exists_getLsbD, BitVec.getLsbD_and, Bool.and_eq_true]

theorem irqClear_getLsbD (v : Word) (s : State) {b : Nat} (hb : b < 5) :
    (irqClear v s).rep.irqPend.getLsbD b = (s.rep.irqPend.getLsbD b && !v.getLsbD b) := by
  simp [irqClear_rep, hb]

theorem hostWrite_irqPend (v : Word) (s : State) :
    hostWrite 0x00000018#32 .b4 v s = .next (replyOk 0 (irqClear v s)) :=
  hostWrite_register_unlocked (by decide) (by decide) (by decide) rfl

/-- Settles O46: bit by bit. -/
theorem interruptLevelAndAcknowledge : Obligations.InterruptLevelAndAcknowledge := by
  refine fun s v => ⟨irq_iff s, fun e => ?_, _, hostWrite_irqPend v s,
    fun b hb => irqClear_getLsbD v s hb, rfl⟩
  intro n
  have hn : n = e.bit := by cases e <;> rfl
  refine ⟨?_, fun b hb => ?_, rfl⟩
  · rw [irqSet_getLsbD, hn, decide_eq_true rfl, Bool.or_true]
  · rw [irqSet_getLsbD, decide_eq_false fun h => hb (h.symm.trans hn.symm), Bool.or_false]

/-! ### The configuration registers (R41, R47, R50, R51, R56 to R59, R61) -/

theorem setWidth_31_32 (x : BitVec 31) : x.setWidth 32 = 0#1 ++ x :=
  BitVec.setWidth_eq_append (by decide)

theorem setWidth_8_32 (x : BitVec 8) : x.setWidth 32 = 0#24 ++ x :=
  BitVec.setWidth_eq_append (by decide)

section RegisterWrite

variable {v : Word} {s : State}

theorem hostWrite_fileLen_unlocked (ha : s.sess.active = false) :
    hostWrite 0x0000002C#32 .b4 v s = .next (replyOk 0 (writeFileLen v s)) :=
  hostWrite_register_unlocked (by decide) (by decide) (by decide) ha

theorem hostWrite_holdMin : hostWrite 0x00000048#32 .b4 v s = .next (replyOk 0 (writeHoldMin v s)) :=
  hostWrite_register_unlocked (by decide) (by decide) (by decide) rfl

theorem hostWrite_spiCtrl_unlocked (hb : s.spi.busy = false) :
    hostWrite 0x00000054#32 .b4 v s = .next (replyOk 0 (writeSpiCtrl v s)) :=
  hostWrite_register_unlocked (by decide) (by decide) (by decide) hb

theorem writeFileLen_legal (h : v.toNat ≤ s.params.srcBytes) :
    writeFileLen v s = { s with source.fileLen := v } := if_pos h

theorem writeFileLen_illegal (h : s.params.srcBytes < v.toNat) : writeFileLen v s = s :=
  if_neg h.not_ge

theorem writeHoldMin_legal (h : v.extractLsb' 0 8 ≠ 0#8) :
    writeHoldMin v s = { s with fsm.holdMin := v.extractLsb' 0 8 } := if_pos h

theorem writeHoldMin_illegal (h : v.extractLsb' 0 8 = 0#8) : writeHoldMin v s = s :=
  if_neg (not_not_intro h)

theorem writeSpiCtrl_legal (h : v.extractLsb' 0 8 ≠ 0#8) :
    writeSpiCtrl v s =
      { s with
        spi.div := v.extractLsb' 0 8
        spi.cmdEn := v.getLsbD 8
        spi.cmdByte := v.extractLsb' 16 8 } := if_pos h

theorem writeSpiCtrl_illegal (h : v.extractLsb' 0 8 = 0#8) : writeSpiCtrl v s = s :=
  if_neg (not_not_intro h)

end RegisterWrite

/-- Settles O48: what each register reads; and of each write the lock first, then whether it is legal. -/
theorem configurationWritesAreLockedThenLegal : Obligations.ConfigurationWritesAreLockedThenLegal := by
  intro s v ok refused reads
  refine ⟨⟨?_, ?_, ?_, ?_, ?_, ?_, ?_, ?_, ?_⟩, ?_, ?_, ?_, ?_, ?_, ?_, ?_, ?_, ?_, ?_, ?_⟩
  · exact hostRead_of_readReg_eq rfl
  · exact hostRead_of_readReg_eq (setWidth_5_32 _)
  · exact hostRead_of_readReg_eq (setWidth_31_32 _)
  · exact hostRead_of_readReg_eq rfl
  · exact hostRead_of_readReg_eq (setWidth_16_32 _)
  · exact hostRead_of_readReg_eq (setWidth_8_32 _)
  · exact hostRead_of_readReg_eq (setWidth_8_32 _)
  · exact hostRead_of_readReg_eq rfl
  · exact hostRead_of_readReg_eq rfl
  · exact hostWrite_register_unlocked (by decide) (by decide) (by decide) rfl
  · exact hostWrite_register_unlocked (by decide) (by decide) (by decide) rfl
  · exact hostWrite_register_unlocked (by decide) (by decide) (by decide) rfl
  · exact fun ha => hostWrite_register_locked (by decide) ha
  · intro ha hlegal
    rw [hostWrite_fileLen_unlocked ha, writeFileLen_legal hlegal]; rfl
  · intro ha hillegal
    rw [hostWrite_fileLen_unlocked ha, writeFileLen_illegal hillegal]; rfl
  · intro hlegal
    rw [hostWrite_holdMin, writeHoldMin_legal hlegal]; rfl
  · intro hillegal
    rw [hostWrite_holdMin, writeHoldMin_illegal hillegal]; rfl
  · exact fun hb => hostWrite_register_locked (by decide) hb
  · intro hb hlegal
    rw [hostWrite_spiCtrl_unlocked hb, writeSpiCtrl_legal hlegal]; rfl
  · intro hb hillegal
    rw [hostWrite_spiCtrl_unlocked hb, writeSpiCtrl_illegal hillegal]; rfl

/-! ### CTRL (R41, R440) -/

theorem ctrlLocked_iff (s : State) (v : Word) :
    s.ctrlLocked v = true ↔
      s.fsm.switchPending = true ∨ (s.sess.active = true ∧ v.getLsbD 1 ≠ s.geom.uvSwap) := by
  simp only [State.ctrlLocked, Bool.or_eq_true, Bool.and_eq_true, bne_iff_ne]

theorem hostWrite_ctrl_unlocked {s : State} {v : Word} (hl : ¬s.ctrlLocked v = true) :
    hostWrite 0x00000004#32 .b4 v s = .next (replyOk 0 (writeCtrl v s)) :=
  hostWrite_register_unlocked (by decide) (by decide) (by decide) (Bool.eq_false_iff.2 hl)

/-- Settles O39: the lock, and then the three changes of MODE_EN. -/
theorem enableWritesSwitchOrClear : Obligations.EnableWritesSwitchOrClear := by
  intro s v
  simp only [← ctrlLocked_iff]
  refine ⟨fun hl => hostWrite_register_locked (by decide) hl, fun hl hsame => ?_,
    fun hl hs hv => ?_, fun hl hs hv => ?_⟩
  · rw [hostWrite_ctrl_unlocked hl, writeCtrl_of_same hsame]; rfl
  · rw [hostWrite_ctrl_unlocked hl, writeCtrl_of_rise hs hv]; rfl
  · rw [hostWrite_ctrl_unlocked hl, writeCtrl_of_fall hs hv]; rfl

/-! ### The completion of a switch (R436) -/

theorem switchReady_iff (s : State) :
    s.switchReady = true ↔ s.fsm.switchPending = true ∧ s.sess.active = false ∧
      s.pool.owner = .none ∧ s.spi.busy = false := by
  simp only [State.switchReady, Bool.and_eq_true, Bool.not_eq_true', beq_iff_eq, and_assoc]

/-- Settles O37: the guard, and then the target. -/
theorem switchCompletesWhenTheBlockIsFree : Obligations.SwitchCompletesWhenTheBlockIsFree := by
  intro s t free irq
  have hfree : s.switchReady = true ↔ free := switchReady_iff s
  have hcomplete (h : free) : t = switchComplete s := if_pos (hfree.2 h)
  refine ⟨fun h => if_neg (mt hfree.1 h), fun h htarget => ?_, fun h htarget => ?_⟩
  · rw [hcomplete h, switchComplete_of_navigation htarget, enterMode_eq]
    simp only [irq, htarget]
    rfl
  · rw [hcomplete h, switchComplete_of_camera htarget, enterMode_eq]
    simp only [irq, htarget]
    rfl

/-! ### FETCH.FILE (R281, R282) -/

section FileFetch

variable {s : State}

theorem workerStep_of_fileFetch (ha : s.sess.active = true) (hk : s.sess.kind = .file)
    (hp : s.sess.phase = .fetch) : workerStep s = .next (fetchFile s) := by
  simp [workerStep, State.workerOp, ha, hk, hp]

theorem fetchFile_of_chunk (h : s.source.filePos.toNat + s.frameSize ≤ s.source.fileLen.toNat) :
    fetchFile s = workerAcquire { s with
      source.frameBase := s.source.filePos
      source.filePos := s.source.filePos + BitVec.ofNat 32 s.frameSize } := by
  rw [fetchFile, if_pos h, BitVec.ofNat_add, BitVec.ofNat_toNat, BitVec.setWidth_eq]

theorem fetchFile_of_rewind (hpos : s.source.fileLen.toNat < s.source.filePos.toNat + s.frameSize)
    (hfs : s.frameSize ≤ s.source.fileLen.toNat) :
    fetchFile s = workerAcquire { s with
      source.frameBase := 0
      source.filePos := BitVec.ofNat 32 s.frameSize } :=
  (if_neg hpos.not_ge).trans (if_pos hfs)

theorem fetchFile_of_short (hfs : s.source.fileLen.toNat < s.frameSize) :
    fetchFile s = sessionEnd (.fatal (fileFailCause s)) s :=
  (if_neg (by omega)).trans (if_neg hfs.not_ge)

end FileFetch

/-- Settles O22: the three branches of R281 and R282. -/
theorem fileFetchTakesRewindsOrFails : Obligations.FileFetchTakesRewindsOrFails := by
  intro s ha hk hp fs
  rw [workerStep_of_fileFetch ha hk hp]
  exact ⟨fun h => congrArg Host.Outcome.next (fetchFile_of_chunk h),
    fun hpos hfs => congrArg Host.Outcome.next (fetchFile_of_rewind hpos hfs),
    fun hfs => congrArg Host.Outcome.next (fetchFile_of_short hfs)⟩

/-! ### Reset (R550, R551) -/

/-- Settles O51: the reset step is the reset state, but for the fields it names. -/
theorem resetFromEveryState : Obligations.ResetFromEveryState :=
  fun _ => ⟨_, rfl, rfl, rfl, rfl, rfl, rfl, rfl, rfl⟩

end Sys2Proof.Machine
end

section
/-! PROOFS. The commands together: COMMIT and STOP by their guards, what a refused command writes, and what
each command leaves alone. -/

namespace Sys2Proof.Machine

/-! ### COMMIT (R243) and STOP (R322) -/

section CommitStop

variable {s : State}

theorem exec_commit_of_owned (h : s.pool.owner = .host) :
    exec .commit s = .next (pend .commit (spiStart s.pool.front.other .host (commitAndSwap s))) :=
  congrArg Host.Outcome.next (if_neg (not_not_intro h))

theorem exec_commit_of_not_owned (h : s.pool.owner ≠ .host) :
    exec .commit s = .next (complete .ownerConflict 0 s) :=
  congrArg Host.Outcome.next (if_pos h)

theorem exec_stop_of_owned (he : s.fsm.en = true) : exec .stop s = .next (complete .modeOwned 0 s) :=
  congrArg Host.Outcome.next (if_pos he)

theorem exec_stop_of_inactive (he : s.fsm.en = false) (ha : s.sess.active = false) :
    exec .stop s = .next (complete .notActive 0 s) :=
  congrArg Host.Outcome.next ((if_neg (by simp [he])).trans (if_pos ha))

theorem exec_stop_of_active (he : s.fsm.en = false) (ha : s.sess.active = true) :
    exec .stop s = .next (pend .stop { s with sess.cancel := true }) :=
  congrArg Host.Outcome.next ((if_neg (by simp [he])).trans (if_neg (by simp [ha])))

end CommitStop

/-- Settles O12: the two branches of R243. -/
theorem commitSwapsAndPresents : Obligations.CommitSwapsAndPresents :=
  fun _ => ⟨exec_commit_of_owned, exec_commit_of_not_owned⟩

/-- Settles O14: the three branches of R322, in their order. -/
theorem stopCancelsTheSession : Obligations.StopCancelsTheSession :=
  fun _ => ⟨exec_stop_of_owned, exec_stop_of_inactive, exec_stop_of_active⟩

/-! ### What a command can do -/

/-- What each command can do to a state: answer with a code, or have the effect of its rule. -/
inductive CommandEffect (s : State) : Instr → State → Prop
  | answer (i : Instr) (c : ResultCode) : CommandEffect s i (complete c 0 s)
  | convertPixel (y u v : Nat) (x : PixelRegs) :
      CommandEffect s (.convertPixel y u v) (complete .ok 0 { s with pix := x })
  | startFile : CommandEffect s .startFile (complete .ok 0 (sessionBegin .file s))
  | startStream : CommandEffect s .startStream (complete .ok 0 (sessionBegin .stream s))
  | stop : CommandEffect s .stop (pend .stop { s with sess.cancel := true })
  | acquire : CommandEffect s .acquire (complete .ok s.back.data { s with pool.owner := .host })
  | commit :
      CommandEffect s .commit (pend .commit (spiStart s.pool.front.other .host (commitAndSwap s)))
  | clearErr : CommandEffect s .clearErr (complete .ok 0 { s with err := ⟨.none, false, .file⟩ })

theorem exec_effect {i : Instr} {s t : State} (h : exec i s = .next t) : CommandEffect s i t := by
  have of_next {u : State} (e : exec i s = .next u) (hu : CommandEffect s i u) :
      CommandEffect s i t := eq_of_next_of_next h e ▸ hu
  cases i with
  | nop => exact of_next rfl (.answer ..)
  | convertPixel => exact of_next rfl (.convertPixel ..)
  | startFile =>
    rcases startSession_cases .file s with ⟨c, -, -, e⟩ | ⟨-, -, -, -, e⟩
    · exact of_next (congrArg Host.Outcome.next e) (.answer ..)
    · exact of_next (congrArg Host.Outcome.next e) .startFile
  | startStream =>
    rcases startSession_cases .stream s with ⟨c, -, -, e⟩ | ⟨-, -, -, -, e⟩
    · exact of_next (congrArg Host.Outcome.next e) (.answer ..)
    · exact of_next (congrArg Host.Outcome.next e) .startStream
  | stop =>
    rcases execStop_cases s with ⟨c, -, -, e⟩ | ⟨-, -, e⟩
    · exact of_next e (.answer ..)
    · exact of_next e .stop
  | acquire =>
    rcases execAcquire_cases s with ⟨c, -, -, e⟩ | ⟨-, -, -, -, e⟩
    · exact of_next e (.answer ..)
    · exact of_next e .acquire
  | commit =>
    rcases execCommit_cases s with e | ⟨-, e⟩
    · exact of_next e (.answer ..)
    · exact of_next e .commit
  | clearErr => exact of_next rfl .clearErr

/-- Settles O15: every effect but an answer alone reports OK or PENDING (R500). -/
theorem refusedCommandsHaveNoEffect : Obligations.RefusedCommandsHaveNoEffect := by
  intro i s t h hok hpending
  cases exec_effect h with
  | answer => rfl
  | convertPixel | startFile | startStream | acquire | clearErr => exact absurd rfl hok
  | stop | commit => exact absurd rfl hpending

namespace CommandEffect

variable {i : Instr} {s t : State}

/-- The frame of all the commands: the fields that some command writes, and no other. -/
theorem frame (h : CommandEffect s i t) :
    t = { s with
      pix := t.pix
      pool := t.pool
      spi := t.spi
      err := t.err
      source := { t.source with fileLen := s.source.fileLen, frameBase := s.source.frameBase }
      sess := { t.sess with framePeriod := s.sess.framePeriod, t0 := s.sess.t0 }
      cmd := { t.cmd with opcode := s.cmd.opcode }
      rep := { s.rep with irqPend := t.rep.irqPend } } := by
  cases h <;> rfl

/-- A command raises CMD_DONE at most. -/
theorem irqPend (h : CommandEffect s i t) {b : Nat} (hb : b ≠ 3) :
    t.rep.irqPend.getLsbD b = s.rep.irqPend.getLsbD b := by
  have hmask : Irq.cmdDone.mask.getLsbD b = false := by
    rw [Irq.mask_getLsbD]
    exact decide_eq_false hb.symm
  cases h with
  | stop | commit => rfl
  | _ => simp [hmask]

/-- PENDING_CMD and each register group are written only by the commands whose rules write them. -/
theorem writers (h : CommandEffect s i t) :
    (i ≠ .stop → i ≠ .commit → t.cmd.pending = s.cmd.pending) ∧
    ((∀ y u v, i ≠ .convertPixel y u v) → t.pix = s.pix) ∧
    (i ≠ .clearErr → t.err = s.err) ∧
    (i ≠ .acquire → i ≠ .commit → t.pool = s.pool) ∧
    (i ≠ .commit → t.spi = s.spi) ∧
    (i ≠ .startFile → i ≠ .startStream → t.source = s.source) ∧
    (i ≠ .startFile → i ≠ .startStream → i ≠ .stop → t.sess = s.sess) := by
  cases h <;> simp

end CommandEffect

/-- Settles O16: the frame, the one interrupt bit, and the writers of each group. -/
theorem commandsKeepEverythingElse : Obligations.CommandsKeepEverythingElse := by
  intro i s t h
  have heffect := exec_effect h
  have hirq (b : Nat) (hb : b ≠ 3) := heffect.irqPend hb
  have hwriters := heffect.writers
  rw [heffect.frame] at hirq hwriters ⊢
  refine ⟨fun b a => ?_, fun _ => rfl, rfl, rfl, rfl, rfl, rfl, rfl, rfl, rfl, rfl, rfl, rfl, rfl, rfl,
    rfl, rfl, rfl, rfl, hirq, hwriters⟩
  cases b <;> rfl

end Sys2Proof.Machine
end

section
/-! PROOFS. Byte lanes (20_memory.md R103), reads (R114), and the host's turn at a POLL (R159). -/

namespace Sys2Proof.Machine

/-! ### Byte lanes (R103) -/

namespace Memory

/-- A run of lanes leaves every byte outside it. -/
theorem read_writeLanes_outside (m : Memory) (o n : Nat) (v : Word) {a : Nat}
    (ha : a < o ∨ o + n ≤ a) : (m.writeLanes o n v).read a = m.read a := by
  induction n generalizing m o v with
  | zero => rfl
  | succ n ih =>
    rw [writeLanes, ih _ _ _ (by omega), read_write_other _ _ (by omega)]

theorem extractLsb'_ushiftRight_eight (v : Word) (k : Nat) :
    (v >>> 8).extractLsb' (8 * k) 8 = v.extractLsb' (8 * (k + 1)) 8 := by
  apply BitVec.eq_of_getLsbD_eq
  intro i hi
  simp only [BitVec.getLsbD_extractLsb', BitVec.getLsbD_ushiftRight]
  congr 2
  omega

/-- Byte k of the value is stored at offset o + k. -/
theorem read_writeLanes_inside (m : Memory) (o n : Nat) (v : Word) {k : Nat} (hk : k < n) :
    (m.writeLanes o n v).read (o + k) = some (v.extractLsb' (8 * k) 8) := by
  induction n generalizing m o v k with
  | zero => omega
  | succ n ih =>
    cases k with
    | zero => rw [writeLanes, read_writeLanes_outside _ _ _ _ (by omega), Nat.add_zero,
        read_write_same]
    | succ k =>
      rw [writeLanes, show o + (k + 1) = o + 1 + k by omega, ih _ _ _ (by omega),
        extractLsb'_ushiftRight_eight]

/-- The low `n` bytes of a word as a word, bit by bit. -/
theorem getLsbD_low_bytes (v : Word) (n i : Nat) (hi : i < 32) :
    (BitVec.ofNat 32 (v.toNat % 2 ^ (8 * n))).getLsbD i = (decide (i < 8 * n) && v.getLsbD i) := by
  rw [BitVec.getLsbD_ofNat, Nat.testBit_mod_two_pow, decide_eq_true hi, Bool.true_and,
    BitVec.testBit_toNat]

/-- One more lane below: the low byte, and above it the low bytes of the rest. -/
theorem low_bytes_succ (v : Word) (n : Nat) :
    BitVec.ofNat 32 ((v >>> 8).toNat % 2 ^ (8 * n)) <<< 8 ||| (v.extractLsb' 0 8).setWidth 32 =
      BitVec.ofNat 32 (v.toNat % 2 ^ (8 * (n + 1))) := by
  apply BitVec.eq_of_getLsbD_eq
  intro i hi
  rw [BitVec.getLsbD_or, BitVec.getLsbD_shiftLeft, getLsbD_low_bytes v (n + 1) i hi,
    BitVec.getLsbD_setWidth, BitVec.getLsbD_extractLsb', Nat.zero_add]
  by_cases hlow : i < 8
  · simp [hlow, hi, show i < 8 * (n + 1) by omega]
  · rw [getLsbD_low_bytes _ n (i - 8) (by omega), BitVec.getLsbD_ushiftRight]
    simp [hlow, hi, show 8 + (i - 8) = i by omega, show i - 8 < 8 * n ↔ i < 8 * (n + 1) by omega]

/-- A run whose bytes are the low `n` bytes of a word reads as those, with no draw. -/
theorem readLanes_of_bytes {m : Memory} {o n : Nat} {v : Word} (d : Nat)
    (h : ∀ k, k < n → m.read (o + k) = some (v.extractLsb' (8 * k) 8)) :
    m.readLanes o n d = (BitVec.ofNat 32 (v.toNat % 2 ^ (8 * n)), d) := by
  induction n generalizing o v with
  | zero => simp [readLanes, Nat.mod_one]
  | succ n ih =>
    have hlow : m.readOrDraw o d = (v.extractLsb' 0 8, d) := readOrDraw_of_read d (h 0 (by omega))
    have hhigh : m.readLanes (o + 1) n d = (BitVec.ofNat 32 ((v >>> 8).toNat % 2 ^ (8 * n)), d) := by
      refine ih fun k hk => ?_
      rw [extractLsb'_ushiftRight_eight, show o + 1 + k = o + (k + 1) by omega]
      exact h (k + 1) (by omega)
    simp only [readLanes, hlow, hhigh, low_bytes_succ]

end Memory

/-- Settles O44: the bytes inside the run, those outside, and the word they read as. -/
theorem byteLanesAreLittleEndian : Obligations.ByteLanesAreLittleEndian := by
  intro m o n v d
  have hinside (k : Nat) (hk : k < n.bytes) := m.read_writeLanes_inside o n.bytes v hk
  exact ⟨hinside, fun _ ha => m.read_writeLanes_outside o n.bytes v ha,
    Memory.readLanes_of_bytes d hinside⟩

/-! ### A read has no side effect (R114) -/

/-- A read answered OK is not a refusal, so it moves the count of draws alone. -/
theorem hostRead_of_ok {a : Word} {n : Size} {s : State} {data : Word}
    (h : (hostRead a n s).reply = some ⟨.ok, data⟩) :
    ∃ d, hostRead a n s = replyOk data { s with draws := d } ∧ s.draws ≤ d ∧
      d ≤ s.draws + n.bytes := by
  rcases hostRead_cases a n s with e | ⟨x, d, e, hlo, hhi⟩
  · rw [e] at h
    exact absurd h (by simp)
  · rw [e] at h
    obtain rfl : x = data := by simpa using h
    exact ⟨d, e, hlo, hhi⟩

/-! ### The program (R159) -/

@[simp] theorem hostRead_program (a : Word) (n : Size) (s : State) :
    (hostRead a n s).program = s.program := by
  rcases hostRead_cases a n s with e | ⟨x, d, e, -⟩ <;> rw [e] <;> rfl

/-- A turn at a POLL is one read; the program moves on if it matches. -/
theorem programStep_poll {s : State} {a m v data : Word} {resp : Response} {rest : List HostStmt}
    (hprog : s.program = .poll a m v :: rest)
    (hreply : (hostRead a .b4 s).reply = some ⟨resp, data⟩) :
    programStep s = .next
      { hostRead a .b4 s with program := if data &&& m = v then rest else s.program } := by
  have hdata : (hostRead a .b4 s).readData = data := by rw [State.readData, hreply]
  have hturn : programStep s = .next (pollStep a m v rest s) := by rw [programStep, hprog]
  rw [hturn, pollStep]
  dsimp only
  rw [hdata]
  split_ifs
  · rfl
  · rw [← hostRead_program a .b4 s]

theorem exec_program {i : Instr} {s t : State} (h : exec i s = .next t) : t.program = s.program := by
  rw [(exec_effect h).frame]

theorem hostStep_program {op : HostOp} {s t : State} (h : hostStep op s = .next t) :
    t.program = s.program := by
  have of_next {u : State} (e : hostStep op s = .next u) (hu : u.program = s.program) :
      t.program = s.program := eq_of_next_of_next h e ▸ hu
  cases op with
  | read a n => exact of_next rfl (hostRead_program a n s)
  | write a n v =>
    rcases hostWrite_cases a n v s with e | ⟨-, -, e⟩ | ⟨-, -, -, e⟩ | ⟨-, o, e⟩ | ⟨-, o, e⟩
    · exact of_next e rfl
    · rw [hostStep, e] at h
      rcases issue_cases v s with ⟨i, -, e'⟩ | e' <;> rw [e'] at h
      · exact exec_program (s := latchOpcode v s) h
      · exact eq_of_next_of_next h rfl ▸ rfl
    · exact of_next e (by rw [writeReg_frame]; rfl)
    · exact of_next e (by simp)
    · exact of_next e rfl

theorem runEvent_program {e : Event} {s t : State} (he : e ≠ .program) (h : runEvent e s = .next t) :
    t.program = s.program := by
  cases e with
  | tick b => exact eq_of_next_of_next h rfl ▸ (Move.tick b).program
  | host op => exact hostStep_program h
  | program => exact absurd rfl he
  | worker => exact (Move.of_workerStep h).program
  | spi => exact (Move.of_spiStep h).program
  | modesw => exact eq_of_next_of_next h rfl ▸ (Move.of_modeswStep s).program
  | producer a => exact (Move.of_producerStep h).program
  | reset => exact eq_of_next_of_next h rfl ▸ rfl

/-- Settles O45: a read that is not refused, the turn at a POLL, and the program under every other event. -/
theorem readsHaveNoSideEffects : Obligations.ReadsHaveNoSideEffects := by
  refine ⟨fun s a n data h => ?_, fun s a m v data resp rest hprog hreply =>
    programStep_poll hprog hreply, fun e s t he h => runEvent_program he h⟩
  obtain ⟨d, e, hlo, hhi⟩ := hostRead_of_ok h
  rw [e]
  exact ⟨rfl, hlo, hhi⟩

end Sys2Proof.Machine
end

section
/-! PROOFS. The frame pass (40_color_converter.md R210 to R213): what one pixel writes, and what the loop over all
of them leaves in the painted buffer. -/

namespace Sys2Proof.Machine

/-! ### The pixels of a frame (R110, R212) -/

theorem mem_pixelOrder {w h : Nat} {rc : Nat × Nat} :
    rc ∈ pixelOrder w h ↔ rc.1 < h ∧ rc.2 < w := by
  obtain ⟨row, col⟩ := rc
  simp [pixelOrder]

/-- The index of a pixel of the display (R110). -/
def pixelIndex (w : Nat) (rc : Nat × Nat) : Nat := rc.1 * w + rc.2

theorem pixelIndex_lt {w h : Nat} {rc : Nat × Nat} (hrc : rc ∈ pixelOrder w h) :
    pixelIndex w rc < w * h := by
  obtain ⟨hrow, hcol⟩ := mem_pixelOrder.1 hrc
  calc rc.1 * w + rc.2 < rc.1 * w + w := Nat.add_lt_add_left hcol _
    _ = (rc.1 + 1) * w := (Nat.succ_mul _ _).symm
    _ ≤ h * w := Nat.mul_le_mul_right w hrow
    _ = w * h := Nat.mul_comm h w

/-- Row and column are the quotient and the remainder of the index. -/
theorem pixelIndex_inj {w : Nat} {x y : Nat × Nat} (hx : x.2 < w) (hy : y.2 < w)
    (h : pixelIndex w x = pixelIndex w y) : x = y := by
  have hcol : x.2 = y.2 := by
    simpa only [pixelIndex, Nat.mul_add_mod_of_lt hx, Nat.mul_add_mod_of_lt hy] using congrArg (· % w) h
  have hrow : x.1 * w = y.1 * w := by
    simpa only [pixelIndex, hcol, Nat.add_right_cancel_iff] using h
  exact Prod.ext (Nat.eq_of_mul_eq_mul_right (by omega) hrow) hcol

/-! ### One pixel (R111, R211, R212) -/

/-- Bytes 2p and 2p+1 of the buffer hold a packed pixel, high byte first (R111). -/
def Memory.HoldsPixel (m : Memory) (p : Nat) (x : BitVec 16) : Prop :=
  m.read (2 * p) = some (x.extractLsb' 8 8) ∧ m.read (2 * p + 1) = some (x.extractLsb' 0 8)

section PaintPixel

variable {src : Memory} {pl : Planes} {w : Nat} {a : Paint} {rc : Nat × Nat}

/-- A pixel is stored in its own two bytes. -/
theorem read_paintPixel_other {x : Nat} (hx : x / 2 ≠ pixelIndex w rc) :
    (paintPixel src pl w a rc).fb.read x = a.fb.read x := by
  have hlow : x ≠ 2 * (rc.1 * w + rc.2) := fun h => hx (by rw [h, pixelIndex]; omega)
  have hhigh : x ≠ 2 * (rc.1 * w + rc.2) + 1 := fun h => hx (by rw [h, pixelIndex]; omega)
  rw [paintPixel, Memory.read_write_other _ _ hhigh, Memory.read_write_other _ _ hlow]

theorem holdsPixel_paintPixel_other {p : Nat} {x : BitVec 16} (hp : p ≠ pixelIndex w rc)
    (h : a.fb.HoldsPixel p x) : (paintPixel src pl w a rc).fb.HoldsPixel p x := by
  obtain ⟨hhigh, hlow⟩ := h
  constructor
  · rwa [read_paintPixel_other (by omega)]
  · rwa [read_paintPixel_other (by omega)]

/-- Where its samples are written, the pixel is their conversion, whatever has been drawn. -/
theorem holdsPixel_paintPixel_self {y u v : Byte}
    (hy : src.read (pl.yb + pixelIndex w rc) = some y)
    (hu : src.read (pl.ub + chromaIndex w rc.1 rc.2) = some u)
    (hv : src.read (pl.vb + chromaIndex w rc.1 rc.2) = some v) :
    (paintPixel src pl w a rc).fb.HoldsPixel (pixelIndex w rc)
      (pack565 (convert y.toNat u.toNat v.toNat)) := by
  rw [pixelIndex] at hy
  simp only [paintPixel, Memory.readOrDraw_of_read _ hy, Memory.readOrDraw_of_read _ hu,
    Memory.readOrDraw_of_read _ hv]
  constructor
  · rw [Memory.read_write_other _ _ (by rw [pixelIndex]; omega), pixelIndex, Memory.read_write_same]
  · rw [pixelIndex, Memory.read_write_same]

end PaintPixel

/-! ### The loop -/

section Loop

variable {src : Memory} {pl : Planes} {w : Nat}

/-- A byte of none of the loop's pixels is left. -/
theorem read_paint_foldl_other {x : Nat} {l : List (Nat × Nat)}
    (hl : ∀ rc ∈ l, x / 2 ≠ pixelIndex w rc) (a : Paint) :
    (l.foldl (paintPixel src pl w) a).fb.read x = a.fb.read x := by
  induction l generalizing a with
  | nil => rfl
  | cons rc l ih =>
    obtain ⟨hrc, hl⟩ := List.forall_mem_cons.1 hl
    rw [List.foldl_cons, ih hl, read_paintPixel_other hrc]

/-- What a pixel holds however often it is painted, it holds once it has been painted, since every other
pixel has other bytes. -/
theorem holdsPixel_paint_foldl {rc : Nat × Nat} {x : BitVec 16} (hcol : rc.2 < w)
    (hself : ∀ a, (paintPixel src pl w a rc).fb.HoldsPixel (pixelIndex w rc) x)
    {l : List (Nat × Nat)} (hl : ∀ rc' ∈ l, rc'.2 < w) {a : Paint}
    (h : rc ∈ l ∨ a.fb.HoldsPixel (pixelIndex w rc) x) :
    (l.foldl (paintPixel src pl w) a).fb.HoldsPixel (pixelIndex w rc) x := by
  induction l generalizing a with
  | nil => exact h.resolve_left nofun
  | cons rc' l ih =>
    obtain ⟨hcol', hl⟩ := List.forall_mem_cons.1 hl
    refine ih hl ?_
    by_cases heq : rc = rc'
    · exact .inr (heq ▸ hself a)
    · refine h.imp (fun hmem => (List.mem_cons.1 hmem).resolve_left heq) fun hholds => ?_
      exact holdsPixel_paintPixel_other (mt (pixelIndex_inj hcol hcol') heq) hholds

end Loop

/-! ### The frame pass -/

theorem framePass_fb (base : Nat) (k : Buf) (s : State) :
    (framePass base k s).fb k =
      ((pixelOrder s.geom.width.toNat s.geom.height.toNat).foldl
        (paintPixel s.srcMem (planesAt base s.pixels s.geom.uvSwap) s.geom.width.toNat)
        ⟨s.fb k, s.draws⟩).fb := by
  cases k <;> rfl

theorem framePass_fb_other (base : Nat) (k : Buf) (s : State) :
    (framePass base k s).fb k.other = s.fb k.other := by
  cases k <;> rfl

/-- The chroma planes are exchanged by UV_SWAP (R210). -/
theorem planesAt_bases (base pixels : Nat) (uvSwap : Bool) :
    (planesAt base pixels uvSwap).yb = base ∧
    (planesAt base pixels uvSwap).ub =
      (if uvSwap then base + pixels + pixels / 4 else base + pixels) ∧
    (planesAt base pixels uvSwap).vb =
      (if uvSwap then base + pixels else base + pixels + pixels / 4) := by
  cases uvSwap <;> exact ⟨rfl, rfl, rfl⟩

/-- Settles O19: the loop paints the pixel, from its own samples, and no later pixel overwrites it. -/
theorem framePassPaintsEveryPixel : Obligations.FramePassPaintsEveryPixel := by
  intro s base k row col y u v w h p ci first second pix hrow hcol hy hu hv
  obtain ⟨hyb, hub, hvb⟩ := planesAt_bases base s.pixels s.geom.uvSwap
  rw [framePass_fb]
  refine holdsPixel_paint_foldl (rc := (row, col)) hcol (fun a => ?_)
    (fun rc hrc => (mem_pixelOrder.1 hrc).2) (.inl (mem_pixelOrder.2 ⟨hrow, hcol⟩))
  refine holdsPixel_paintPixel_self (rc := (row, col)) ?_ ?_ ?_
  · rw [hyb]
    exact hy
  · rw [hub, ite_add]
    exact hu
  · rw [hvb, ite_add]
    exact hv

/-- Settles O20: the frame's pixels lie below 2*W*H, and the rest is the pass's frame. -/
theorem framePassWritesOnlyTheFrame : Obligations.FramePassWritesOnlyTheFrame := by
  refine fun s base k => ⟨fun a ha => ?_, fun a => by rw [framePass_fb_other], ?_⟩
  · rw [framePass_fb]
    refine read_paint_foldl_other (fun rc hrc => ?_) _
    have hlt := pixelIndex_lt hrc
    omega
  · rw [framePass_frame]

end Sys2Proof.Machine
end

section
/-! PROOFS. The debouncer's window (45_debouncer.md R401, R402): the TICKs between two samples, and the run from
the start of a window to its end. -/

namespace Sys2Proof.Machine

/-! ### Runs of debounce steps -/

theorem debounceRun_append (xs ys : List Bool) (s : State) :
    debounceRun (xs ++ ys) s =
      ((debounceRun ys (debounceRun xs s).1).1,
        (debounceRun xs s).2 ++ (debounceRun ys (debounceRun xs s).1).2) := by
  induction xs generalizing s with
  | nil => rfl
  | cons x xs ih => simp only [List.cons_append, debounceRun, ih, List.append_assoc]

/-- R402: until DB_TMR is 0, a TICK counts it down and does nothing else. -/
theorem debounceRun_of_waiting {lvls : List Bool} {s : State} (h : lvls.length = s.deb.tmr.toNat) :
    debounceRun lvls s = ({ s with deb.tmr := 0#16 }, []) := by
  induction lvls generalizing s with
  | nil =>
    have htmr : s.deb.tmr = 0#16 := BitVec.eq_of_toNat_eq h.symm
    rw [← htmr]
    rfl
  | cons l ls ih =>
    have hlen : ls.length + 1 = s.deb.tmr.toNat := h
    have htmr : s.deb.tmr ≠ 0 := by rintro h0; simp [h0] at hlen
    have hnext : ls.length = (s.deb.tmr - 1).toNat := by bv_omega
    simp only [debounceRun, debounceStep_of_waiting htmr,
      ih (s := { s with deb.tmr := s.deb.tmr - 1 }) hnext]
    rfl

/-- Settles O33: the levels before the next sample are not looked at. -/
theorem noSampleBetweenSamples : Obligations.NoSampleBetweenSamples := by
  intro s lvls h
  rw [debounceRun_of_waiting h]
  exact ⟨rfl, rfl⟩

/-! ### What the samples of a window agree on -/

/-- Every `i`-th level of a run, from the first on and `m` of them, is `l`. -/
abbrev SamplesAre (lvls : List Bool) (i m : Nat) (l : Bool) : Prop := ∀ j, j < m → lvls[j * i]? = some l

/-- The samples that the window has taken are all at level `l`. -/
def State.agreesOn (s : State) (l : Bool) : Bool :=
  s.deb.k == 0 || (s.deb.agree && s.deb.first == l)

/-- The result of a window of which all samples are high, or all are low, or neither (R401). -/
def verdict (high low : Prop) [Decidable high] [Decidable low] : Window :=
  if high then .high else if low then .low else .unstable

theorem verdict_congr {h h' l l' : Prop} [Decidable h] [Decidable h'] [Decidable l] [Decidable l']
    (hh : h ↔ h') (hl : l ↔ l') : verdict h l = verdict h' l' := by
  simp only [verdict, hh, hl]

theorem agreesOn_takeSample {s : State} (hk : s.deb.k + 1 ≠ 0) (x l : Bool) :
    (takeSample x s).agreesOn l = (s.agreesOn l && x == l) := by
  have hk' : (takeSample x s).deb.k ≠ 0 := hk
  by_cases h0 : s.deb.k = 0
  · simp [State.agreesOn, takeSample, h0]
  · simp only [State.agreesOn, beq_false_of_ne hk', beq_false_of_ne h0, Bool.false_or]
    simp only [takeSample, if_neg h0]
    have hchain : ∀ a f x l : Bool, (a && x == f && f == l) = (a && f == l && x == l) := by decide
    exact hchain _ _ _ _

/-- R401: once a sample has been taken, the result is the level that all samples agree on. -/
theorem windowResult_eq_verdict {s : State} (hk : s.deb.k ≠ 0) :
    s.windowResult = verdict (s.agreesOn true = true) (s.agreesOn false = true) := by
  simp only [State.windowResult, State.agreesOn, beq_false_of_ne hk, Bool.false_or, verdict]
  cases s.deb.agree <;> cases s.deb.first <;> rfl

/-- The samples of a run that begins with one: that one, and those of the run from the next one on. -/
theorem samplesAre_cons {x : Bool} {rest : List Bool} {i : Nat} (hi : 0 < i) (m : Nat) (l : Bool) :
    SamplesAre (x :: rest) i (m + 1) l ↔ x = l ∧ SamplesAre (rest.drop (i - 1)) i m l := by
  have hnext (j : Nat) : (x :: rest)[(j + 1) * i]? = (rest.drop (i - 1))[j * i]? := by
    have hidx : (j + 1) * i = i - 1 + j * i + 1 := by rw [Nat.succ_mul]; omega
    rw [hidx, List.getElem?_cons_succ, List.getElem?_drop]
  simp only [SamplesAre, Nat.forall_lt_succ_left, hnext, Nat.zero_mul, List.getElem?_cons_zero,
    Option.some.injEq]

/-- Taking a sample moves it from the samples to come to those that agree, or do not. -/
theorem verdict_takeSample {s : State} (hk : s.deb.k + 1 ≠ 0) {i : Nat} (hi : 0 < i) (m : Nat) (x : Bool)
    (rest : List Bool) :
    verdict (s.agreesOn true = true ∧ SamplesAre (x :: rest) i (m + 1) true)
        (s.agreesOn false = true ∧ SamplesAre (x :: rest) i (m + 1) false) =
      verdict ((takeSample x s).agreesOn true = true ∧ SamplesAre (rest.drop (i - 1)) i m true)
        ((takeSample x s).agreesOn false = true ∧ SamplesAre (rest.drop (i - 1)) i m false) := by
  have hmove (l : Bool) : s.agreesOn l = true ∧ SamplesAre (x :: rest) i (m + 1) l ↔
      (takeSample x s).agreesOn l = true ∧ SamplesAre (rest.drop (i - 1)) i m l := by
    rw [agreesOn_takeSample hk, Bool.and_eq_true, beq_iff_eq, samplesAre_cons hi, and_assoc]
  exact verdict_congr (hmove true) (hmove false)

/-! ### The end of a window -/

/-- The run ends with its one window, which reports `r` and the stable level `p` before it, and with
DB_TMR at `tmr` (R401). -/
structure EndsWindow (d : State × List WindowEnd) (r : Window) (p : Stable) (tmr : BitVec 16) : Prop where
  windows : d.2 = [⟨r, p⟩]
  k : d.1.deb.k = 0#8
  tmr : d.1.deb.tmr = tmr
  lastResult : d.1.deb.lastResult = r.result
  lastStable : d.1.deb.lastStable = r.stable p

/-- The DEB_COUNT-th sample ends the window (R401). -/
theorem endsWindow_of_last_sample {l : Bool} {s : State} (ht : s.deb.tmr = 0)
    (hk : s.deb.k + 1 = s.deb.count) :
    EndsWindow (debounceRun [l] s) (takeSample l s).windowResult s.deb.lastStable
      (s.deb.interval - 1) := by
  simp only [debounceRun, debounceStep_of_last ht hk]
  exact ⟨rfl, rfl, rfl, rfl, rfl⟩

/-- After any other sample the run goes on at the next one, DEB_INTERVAL TICKs later (R402). -/
theorem debounceRun_of_sample {l : Bool} {rest : List Bool} {s : State} (ht : s.deb.tmr = 0)
    (hk : s.deb.k + 1 ≠ s.deb.count) (hi : 0 < s.deb.interval.toNat)
    (hlen : s.deb.interval.toNat ≤ rest.length + 1) :
    debounceRun (l :: rest) s =
      debounceRun (rest.drop (s.deb.interval.toNat - 1)) { takeSample l s with deb.tmr := 0#16 } := by
  have hwaits : (rest.take (s.deb.interval.toNat - 1)).length = (takeSample l s).deb.tmr.toNat := by
    have htmr : (takeSample l s).deb.tmr.toNat = s.deb.interval.toNat - 1 :=
      show (s.deb.interval - 1).toNat = _ by bv_omega
    rw [htmr, List.length_take]
    omega
  have hstep : debounceRun (l :: rest) s = debounceRun rest (takeSample l s) := by
    simp only [debounceRun, debounceStep_of_sample ht hk]
    rfl
  conv_lhs => rw [hstep, ← List.take_append_drop (s.deb.interval.toNat - 1) rest]
  rw [debounceRun_append, debounceRun_of_waiting hwaits]
  rfl

/-- With `m` samples to come after the next one, the window ends at the last of them, and its result is
the level on which they agree with those taken before. -/
theorem endsWindow_of_samples (m : Nat) {s : State} {lvls : List Bool} (ht : s.deb.tmr = 0)
    (hk : s.deb.k.toNat + (m + 1) = s.deb.count.toNat) (hi : 0 < s.deb.interval.toNat)
    (hlen : lvls.length = m * s.deb.interval.toNat + 1) :
    EndsWindow (debounceRun lvls s)
      (verdict (s.agreesOn true = true ∧ SamplesAre lvls s.deb.interval.toNat (m + 1) true)
        (s.agreesOn false = true ∧ SamplesAre lvls s.deb.interval.toNat (m + 1) false))
      s.deb.lastStable (s.deb.interval - 1) := by
  induction m generalizing s lvls with
  | zero =>
    obtain ⟨x, rfl⟩ := List.length_eq_one_iff.1 (by simpa using hlen)
    have hk1 : s.deb.k + 1 ≠ 0 := by bv_omega
    rw [verdict_takeSample hk1 hi]
    have hlast : s.deb.k + 1 = s.deb.count := by bv_omega
    have h := endsWindow_of_last_sample (l := x) ht hlast
    rw [windowResult_eq_verdict hk1] at h
    simpa [SamplesAre] using h
  | succ m ih =>
    obtain ⟨x, rest, rfl⟩ := List.exists_cons_of_length_eq_add_one hlen
    have hk1 : s.deb.k + 1 ≠ 0 := by bv_omega
    have hmore : s.deb.k + 1 ≠ s.deb.count := by bv_omega
    rw [verdict_takeSample hk1 hi]
    have hlen' : rest.length = m * s.deb.interval.toNat + s.deb.interval.toNat := by
      rw [← Nat.succ_mul]
      exact Nat.succ.inj hlen
    rw [debounceRun_of_sample ht hmore hi (by omega)]
    refine ih (s := { takeSample x s with deb.tmr := 0#16 }) rfl ?_ hi ?_
    · show (s.deb.k + 1).toNat + (m + 1) = s.deb.count.toNat
      bv_omega
    · rw [List.length_drop, hlen']
      show _ = m * s.deb.interval.toNat + 1
      omega

/-- Settles O32: from the start of a window no sample disagrees yet, and the result is the verdict on
those of the run. -/
theorem windowReportsWhatItsSamplesAgreeOn : Obligations.WindowReportsWhatItsSamplesAgreeOn := by
  intro s lvls n i ht hk hn hi hnpos hipos hlen r d
  have hstart (l : Bool) : s.agreesOn l = true := by simp [State.agreesOn, hk]
  have hr : r = verdict (SamplesAre lvls i n true) (SamplesAre lvls i n false) := rfl
  obtain ⟨m, rfl⟩ : ∃ m, n = m + 1 := ⟨n - 1, by omega⟩
  subst hi
  have hend := endsWindow_of_samples m ht (by rw [hk, ← hn]; simp) hipos hlen
  simp only [hstart, true_and] at hend
  rw [← hr] at hend
  obtain ⟨hwindows, hk', htmr, hresult, hstable⟩ := hend
  refine ⟨hwindows, hk', ?_, hresult, hstable.trans ?_⟩
  · rw [htmr]
    bv_omega
  · cases r <;> rfl

end Sys2Proof.Machine
end

section
/-! PROOFS. The SPI display controller (44_spi_display.md R370 to R374): the waveform of a byte, the step that
sends one, and a whole present from spi_start to its end. -/

namespace Sys2Proof.Machine

/-! ### The waveform of a byte (R370) -/

/-- Pieces of one length side by side: element `i * c + j` is element `j` of piece `i`. -/
theorem getElem?_flatMap_of_length {α β : Type} {f : α → List β} {c : Nat} (hf : ∀ a, (f a).length = c)
    (l : List α) (i : Nat) {j : Nat} (hj : j < c) :
    (l.flatMap f)[i * c + j]? = l[i]?.bind fun a => (f a)[j]? := by
  induction l generalizing i with
  | nil => simp
  | cons a l ih =>
    rw [List.flatMap_cons]
    cases i with
    | zero =>
      rw [Nat.zero_mul, Nat.zero_add, List.getElem?_append_left (by rw [hf]; exact hj)]
      rfl
    | succ i =>
      rw [List.getElem?_append_right (by rw [hf, Nat.succ_mul]; omega), hf,
        show (i + 1) * c + j - c = i * c + j by rw [Nat.succ_mul]; omega, ih]
      rfl

theorem length_bitWave (div : Nat) (b : Bool) : (bitWave div b).length = 2 * div := by
  simp only [bitWave, List.length_append, List.length_replicate]
  omega

/-- The low half of a bit, and its high half. -/
theorem getElem?_bitWave {div j : Nat} (b : Bool) (hj : j < div) :
    (bitWave div b)[j]? = some ⟨false, b⟩ ∧ (bitWave div b)[div + j]? = some ⟨true, b⟩ := by
  constructor
  · rw [bitWave, List.getElem?_append_left (by simpa using hj), List.getElem?_replicate_of_lt hj]
  · rw [bitWave, List.getElem?_append_right (by simp), List.length_replicate, Nat.add_sub_cancel_left,
      List.getElem?_replicate_of_lt hj]

theorem length_byteWave (div : Nat) (x : Byte) : (byteWave div x).length = 16 * div := by
  simp only [byteWave, List.length_flatMap, length_bitWave, List.map_cons, List.map_nil, List.sum_cons,
    List.sum_nil]
  omega

/-- Bit position `i` is bit 7 - i of the byte: most significant bit first. -/
theorem getElem?_byteWave {div i j : Nat} (x : Byte) (hi : i < 8) (hj : j < 2 * div) :
    (byteWave div x)[i * (2 * div) + j]? = (bitWave div (x.getLsbD (7 - i)))[j]? := by
  have hbit : ∀ i, i < 8 → [7, 6, 5, 4, 3, 2, 1, 0][i]? = some (7 - i) := by decide
  rw [byteWave, getElem?_flatMap_of_length (fun _ => length_bitWave _ _) _ _ hj, hbit i hi]
  rfl

theorem byteWave_halves {div i j : Nat} (x : Byte) (hi : i < 8) (hj : j < div) :
    (byteWave div x)[2 * i * div + j]? = some ⟨false, x.getLsbD (7 - i)⟩ ∧
      (byteWave div x)[(2 * i + 1) * div + j]? = some ⟨true, x.getLsbD (7 - i)⟩ := by
  obtain ⟨hlow, hhigh⟩ := getElem?_bitWave (x.getLsbD (7 - i)) hj
  rw [show 2 * i * div + j = i * (2 * div) + j by ring,
    show (2 * i + 1) * div + j = i * (2 * div) + (div + j) by ring,
    getElem?_byteWave x hi (by omega), getElem?_byteWave x hi (by omega)]
  exact ⟨hlow, hhigh⟩

/-! ### The step that sends a byte (R372) -/

section SpiByte

variable {s : State}

theorem spiStep_of_commandByte (hb : s.spi.busy = true) (hc : s.spi.cmdPhase = true) :
    spiStep s = .next (spiCommandByte s) := by
  simp [spiStep, State.spiOp, spiByte, hb, hc]

theorem spiStep_of_payloadByte (hb : s.spi.busy = true) (hc : s.spi.cmdPhase = false)
    (hmore : s.spi.idx < s.spi.len) (hfb : s.spi.idx.toNat < s.params.fbBytes) :
    spiStep s = .next (spiPayloadByte s) := by
  simp [spiStep, State.spiOp, spiByte, hb, hc, hmore, hfb]

end SpiByte

/-- Settles O31: the waveform bit by bit and half by half, and the step by the phase of the present. -/
theorem byteWaveformIsModeZero : Obligations.ByteWaveformIsModeZero := by
  refine ⟨fun div x => ⟨length_byteWave div x, fun i j hi hj => byteWave_halves x hi hj⟩,
    fun s hb => ⟨spiStep_of_commandByte hb, fun hc hmore hfb => ?_⟩⟩
  refine ⟨_, _, fun y hy => ?_, spiStep_of_payloadByte hb hc hmore hfb⟩
  rw [Memory.readOrDraw_of_read _ hy]
  exact ⟨rfl, rfl⟩

/-! ### A whole present (R371 to R374) -/

theorem runEvents_cons_of_next {e : Event} {es : List Event} {s t : State} (h : runEvent e s = .next t) :
    runEvents (e :: es) s = runEvents es t := by
  rw [runEvents, h]

/-- From `s` to `t` a present has ended: the pins are released, its record stands after those sent
before, and nothing was written to a framebuffer or drawn. -/
structure PresentEnded (s t : State) (r : SpiRecord) : Prop where
  busy : t.spi.busy = false
  csN : t.spi.csN = true
  dc : t.spi.dc = true
  mosi : t.spi.mosi = false
  sent : t.spi.sent = s.spi.sent ++ [r]
  fb0 : t.fb0 = s.fb0
  fb1 : t.fb1 = s.fb1
  draws : t.draws = s.draws

theorem presentEnded_spiEnd (s : State) : PresentEnded s (spiEnd s) s.spi.current := by
  rcases spiEnd_cases s with ⟨-, -, e⟩ | ⟨-, e⟩ <;> rw [e] <;>
    exact ⟨rfl, rfl, rfl, rfl, rfl, rfl, rfl, rfl⟩

/-- The bytes of a memory from `a` on, `n` of them, where each has been written. -/
def bytesFrom (m : Memory) (a n : Nat) : List Byte :=
  (List.range' a n).map fun j => (m.read j).getD 0

theorem storedBytes_eq_bytesFrom (m : Memory) (n : Nat) : storedBytes m n = bytesFrom m 0 n := by
  rw [storedBytes, bytesFrom, List.range_eq_range']

theorem bytesFrom_succ {m : Memory} {a : Nat} {x : Byte} (h : m.read a = some x) (n : Nat) :
    bytesFrom m a (n + 1) = x :: bytesFrom m (a + 1) n := by
  rw [bytesFrom, List.range'_succ, List.map_cons, h]
  rfl

/-- The state after the payload byte `x` is sent. -/
def payloadSent (x : Byte) (s : State) : State :=
  { shiftOut true x s with
    spi.idx := s.spi.idx + 1
    spi.current.payload := s.spi.current.payload ++ [x] }

/-- A written byte is sent as it stands. -/
theorem spiPayloadByte_of_read {s : State} {x : Byte}
    (h : (s.fb s.spi.buf).read s.spi.idx.toNat = some x) : spiPayloadByte s = payloadSent x s := by
  rw [spiPayloadByte, Memory.readOrDraw_of_read _ h]
  rfl

/-- What ends the present after one more byte ends it with that byte first. -/
theorem presentEnded_of_payloadSent {s t : State} {x : Byte} {xs : List Byte}
    (h : PresentEnded (payloadSent x s) t
      { (payloadSent x s).spi.current with payload := (payloadSent x s).spi.current.payload ++ xs }) :
    PresentEnded s t { s.spi.current with payload := s.spi.current.payload ++ x :: xs } := by
  obtain ⟨hbusy, hcs, hdc, hmosi, hsent, hfb0, hfb1, hdraws⟩ := h
  refine ⟨hbusy, hcs, hdc, hmosi, hsent.trans ?_, hfb0, hfb1, hdraws⟩
  simp [payloadSent]

/-- With the command byte sent and `n` payload bytes to go, `n` steps send them and one more ends the
present. -/
theorem payload_presentEnded (n : Nat) {s : State} (hb : s.spi.busy = true) (hc : s.spi.cmdPhase = false)
    (hlen : s.spi.idx.toNat + n = s.spi.len.toNat) (hfb : s.spi.len.toNat ≤ s.params.fbBytes)
    (hread : ∀ a, a < s.spi.len.toNat → ((s.fb s.spi.buf).read a).isSome = true) :
    ∃ t, runEvents (List.replicate (n + 1) .spi) s = .next t ∧
      PresentEnded s t { s.spi.current with
        payload := s.spi.current.payload ++ bytesFrom (s.fb s.spi.buf) s.spi.idx.toNat n } := by
  induction n generalizing s with
  | zero =>
    have hsent : s.spi.idx = s.spi.len := BitVec.eq_of_toNat_eq hlen
    refine ⟨spiEnd s, runEvents_cons_of_next (spiStep_of_sent hb hc hsent), ?_⟩
    simpa [bytesFrom] using presentEnded_spiEnd s
  | succ n ih =>
    have hmore : s.spi.idx < s.spi.len := BitVec.lt_def.2 (by omega)
    obtain ⟨hidx, -⟩ := idx_succ_le hmore
    obtain ⟨x, hx⟩ := Option.isSome_iff_exists.1 (hread _ (BitVec.lt_def.1 hmore))
    have hstep : runEvent .spi s = .next (payloadSent x s) := by
      rw [← spiPayloadByte_of_read hx]
      exact spiStep_of_payloadByte hb hc hmore (by omega)
    have hlen' : (payloadSent x s).spi.idx.toNat + n = s.spi.len.toNat := by
      rw [show (payloadSent x s).spi.idx.toNat = s.spi.idx.toNat + 1 from hidx]
      omega
    obtain ⟨t, hrun, hend⟩ := ih (s := payloadSent x s) hb hc hlen' hfb hread
    refine ⟨t, (runEvents_cons_of_next hstep).trans hrun, ?_⟩
    rw [bytesFrom_succ hx, ← hidx]
    exact presentEnded_of_payloadSent hend

/-- The command byte goes before the payload. -/
theorem runEvents_commandByte {s : State} (hb : s.spi.busy = true) (hc : s.spi.cmdPhase = true)
    (es : List Event) : runEvents (.spi :: es) s = runEvents es (spiCommandByte s) :=
  runEvents_cons_of_next (spiStep_of_commandByte hb hc)

/-- Settles O29: the command byte if CMD_EN, and then the payload from the first byte on. -/
theorem presentSendsTheBufferInOrder : Obligations.PresentSendsTheBufferInOrder := by
  intro s src k n hn hfb hlt hread
  have hlen : (spiStart k src s).spi.len.toNat = n := by
    show (BitVec.ofNat 32 (2 * (s.geom.width.toNat * s.geom.height.toNat))).toNat = n
    rw [← hn, BitVec.toNat_ofNat, Nat.mod_eq_of_lt hlt]
  rw [storedBytes_eq_bytesFrom]
  cases hen : s.spi.cmdEn with
  | false =>
    obtain ⟨t, hrun, hbusy, hcs, hdc, hmosi, hsent, hfb0, hfb1, hdraws⟩ :=
      payload_presentEnded n (s := spiStart k src s) rfl hen ((Nat.zero_add n).trans hlen.symm)
        (hlen.trans_le hfb) (fun a ha => hread a (hlen ▸ ha))
    refine ⟨t, ?_, hbusy, hcs, hdc, hmosi, hsent, hfb0, hfb1, hdraws⟩
    simpa only [Bool.false_eq_true, if_false, Nat.zero_add] using hrun
  | true =>
    obtain ⟨t, hrun, hbusy, hcs, hdc, hmosi, hsent, hfb0, hfb1, hdraws⟩ :=
      payload_presentEnded n (s := spiCommandByte (spiStart k src s)) rfl rfl
        ((Nat.zero_add n).trans hlen.symm) (hlen.trans_le hfb) (fun a ha => hread a (hlen ▸ ha))
    refine ⟨t, ?_, hbusy, hcs, hdc, hmosi, hsent, hfb0, hfb1, hdraws⟩
    rw [if_pos rfl, Nat.add_assoc, Nat.add_comm 1, List.replicate_succ, runEvents_commandByte rfl hen]
    exact hrun

end Sys2Proof.Machine
end
